-- ==== Sys2Proof/Word.lean ====
section
/-! DEFINITION. The word types of LoongArch32 Reduced.

`spec/00_scope.md` R6 and R9: general registers and the program counter have 32 bits, bit 31 is the most
significant; memory is byte-addressed (`spec/20_memory.md` R80). -/

namespace Sys2Proof

/-- A 32-bit word: a general register, the program counter, an instruction word, a CSR (R9, R10). -/
abbrev Word := BitVec 32

/-- A byte of memory (R80). -/
abbrev Byte := BitVec 8

/-- A 64-bit doubleword: a floating-point register, the Stable Counter (R30, R52). -/
abbrev Dword := BitVec 64

/-- A general- or floating-point-register number, a 5-bit field (R122). -/
abbrev RegNum := BitVec 5

/-- A condition-flag-register number, a 3-bit field (R126). -/
abbrev FlagNum := BitVec 3

end Sys2Proof
end

