-- ==== Sys2Proof/Machine/Bits.lean ====
section
/-! DEFINITION. Bit fields and extensions of words (`spec/00_scope.md` R9, R11). -/

namespace Sys2Proof

/-- `v[lo+n-1:lo]`, the field of `n` bits whose lowest bit is `lo` (R9). -/
def field (w : Word) (lo n : Nat) : BitVec n := w.extractLsb' lo n

/-- The word with `v` in the bits from `lo` up and 0 elsewhere (R9, R124). -/
def place {n : Nat} (v : BitVec n) (lo : Nat) : Word := v.setWidth 32 <<< lo

/-- The word with ones exactly in the `n` bits from `lo` up. -/
def ones (lo n : Nat) : Word := place (BitVec.allOnes n) lo

/-- `w` with the field of `v`'s width at `lo` replaced by `v`, the other bits kept (R9). -/
def setField {n : Nat} (w : Word) (lo : Nat) (v : BitVec n) : Word := (w &&& ~~~(ones lo n)) ||| place v lo

/-- `w[i]` (R9). -/
def bit (w : Word) (i : Nat) : Bool := w.getLsbD i

/-- `w` with bit `i` made `b`. -/
def setBit (w : Word) (i : Nat) (b : Bool) : Word := setField w i (BitVec.ofBool b)

/-- `sext_32(v)` (R11). -/
def sext32 {n : Nat} (v : BitVec n) : Word := v.signExtend 32

/-- `zext_32(v)` (R11). -/
def zext32 {n : Nat} (v : BitVec n) : Word := v.setWidth 32

/-- `sext_32({v, 2'b0})`, the value of a scaled offset (R124). -/
def scaled {n : Nat} (v : BitVec n) : Word := sext32 (v ++ 0#2)

/-- The word 1 for true, 0 for false: the result of a comparison (`spec/40_int_arith.md` R175). -/
def boolWord (b : Bool) : Word := if b then 1#32 else 0#32

/-- `w` rounded down to a multiple of 64: `{w[31:6], 6'b0}` (`spec/10_state.md` R67, R78). -/
def entryAddress (w : Word) : Word := w &&& 0xFFFFFFC0#32

end Sys2Proof
end

