-- ==== Sys2Proof/Syntax.lean ====
section
/-! DEFINITION. The instructions: one constructor per row of `spec/opcode_table.json`.

The operands stand in assembler order (`spec/30_encoding.md` R150; JIRL and the FMADD group in the order of R154), with
the widths of R122 and R124. Split immediates (R124, R125) are one operand. -/

namespace Sys2Proof

/-- The 182 instructions of LoongArch32 Reduced (`spec/30_encoding.md` R147). -/
inductive Instr where
  -- Integer arithmetic, `spec/40_int_arith.md`
  /-- ADD.W rd, rj, rk (R171). -/
  | addW (rd rj rk : RegNum)
  /-- SUB.W rd, rj, rk (R172). -/
  | subW (rd rj rk : RegNum)
  /-- ADDI.W rd, rj, si12 (R173). -/
  | addiW (rd rj : RegNum) (si12 : BitVec 12)
  /-- LU12I.W rd, si20 (R174). -/
  | lu12iW (rd : RegNum) (si20 : BitVec 20)
  /-- SLT rd, rj, rk (R175). -/
  | slt (rd rj rk : RegNum)
  /-- SLTU rd, rj, rk (R176). -/
  | sltu (rd rj rk : RegNum)
  /-- SLTI rd, rj, si12 (R177). -/
  | slti (rd rj : RegNum) (si12 : BitVec 12)
  /-- SLTUI rd, rj, si12 (R178). -/
  | sltui (rd rj : RegNum) (si12 : BitVec 12)
  /-- PCADDU12I rd, si20 (R179). -/
  | pcaddu12i (rd : RegNum) (si20 : BitVec 20)
  /-- MUL.W rd, rj, rk (R180). -/
  | mulW (rd rj rk : RegNum)
  /-- MULH.W rd, rj, rk (R181). -/
  | mulhW (rd rj rk : RegNum)
  /-- MULH.WU rd, rj, rk (R182). -/
  | mulhWu (rd rj rk : RegNum)
  /-- DIV.W rd, rj, rk (R183). -/
  | divW (rd rj rk : RegNum)
  /-- DIV.WU rd, rj, rk (R184). -/
  | divWu (rd rj rk : RegNum)
  /-- MOD.W rd, rj, rk (R185). -/
  | modW (rd rj rk : RegNum)
  /-- MOD.WU rd, rj, rk (R186). -/
  | modWu (rd rj rk : RegNum)
  -- Logic and shifts, `spec/41_int_logic_shift.md`
  /-- AND rd, rj, rk (R201). -/
  | and (rd rj rk : RegNum)
  /-- OR rd, rj, rk (R202). -/
  | or (rd rj rk : RegNum)
  /-- NOR rd, rj, rk (R203). -/
  | nor (rd rj rk : RegNum)
  /-- XOR rd, rj, rk (R204). -/
  | xor (rd rj rk : RegNum)
  /-- ANDI rd, rj, ui12 (R205). -/
  | andi (rd rj : RegNum) (ui12 : BitVec 12)
  /-- ORI rd, rj, ui12 (R206). -/
  | ori (rd rj : RegNum) (ui12 : BitVec 12)
  /-- XORI rd, rj, ui12 (R207). -/
  | xori (rd rj : RegNum) (ui12 : BitVec 12)
  /-- SLL.W rd, rj, rk (R211). -/
  | sllW (rd rj rk : RegNum)
  /-- SRL.W rd, rj, rk (R212). -/
  | srlW (rd rj rk : RegNum)
  /-- SRA.W rd, rj, rk (R213). -/
  | sraW (rd rj rk : RegNum)
  /-- SLLI.W rd, rj, ui5 (R214). -/
  | slliW (rd rj : RegNum) (ui5 : BitVec 5)
  /-- SRLI.W rd, rj, ui5 (R215). -/
  | srliW (rd rj : RegNum) (ui5 : BitVec 5)
  /-- SRAI.W rd, rj, ui5 (R216). -/
  | sraiW (rd rj : RegNum) (ui5 : BitVec 5)
  -- Branches and jumps, `spec/42_branch.md`
  /-- BEQ rj, rd, offs16 (R231). -/
  | beq (rj rd : RegNum) (offs16 : BitVec 16)
  /-- BNE rj, rd, offs16 (R232). -/
  | bne (rj rd : RegNum) (offs16 : BitVec 16)
  /-- BLT rj, rd, offs16 (R233). -/
  | blt (rj rd : RegNum) (offs16 : BitVec 16)
  /-- BGE rj, rd, offs16 (R234). -/
  | bge (rj rd : RegNum) (offs16 : BitVec 16)
  /-- BLTU rj, rd, offs16 (R235). -/
  | bltu (rj rd : RegNum) (offs16 : BitVec 16)
  /-- BGEU rj, rd, offs16 (R236). -/
  | bgeu (rj rd : RegNum) (offs16 : BitVec 16)
  /-- B offs26 (R237). -/
  | b (offs26 : BitVec 26)
  /-- BL offs26 (R238). -/
  | bl (offs26 : BitVec 26)
  /-- JIRL rd, rj, offs16 (R239). -/
  | jirl (rd rj : RegNum) (offs16 : BitVec 16)
  -- Loads, stores, prefetch, `spec/43_load_store.md`
  /-- LD.B rd, rj, si12 (R251). -/
  | ldB (rd rj : RegNum) (si12 : BitVec 12)
  /-- LD.H rd, rj, si12 (R252). -/
  | ldH (rd rj : RegNum) (si12 : BitVec 12)
  /-- LD.W rd, rj, si12 (R253). -/
  | ldW (rd rj : RegNum) (si12 : BitVec 12)
  /-- LD.BU rd, rj, si12 (R254). -/
  | ldBu (rd rj : RegNum) (si12 : BitVec 12)
  /-- LD.HU rd, rj, si12 (R255). -/
  | ldHu (rd rj : RegNum) (si12 : BitVec 12)
  /-- ST.B rd, rj, si12 (R256). -/
  | stB (rd rj : RegNum) (si12 : BitVec 12)
  /-- ST.H rd, rj, si12 (R257). -/
  | stH (rd rj : RegNum) (si12 : BitVec 12)
  /-- ST.W rd, rj, si12 (R258). -/
  | stW (rd rj : RegNum) (si12 : BitVec 12)
  /-- PRELD hint, rj, si12 (R259). -/
  | preld (hint : BitVec 5) (rj : RegNum) (si12 : BitVec 12)
  -- Atomic access and barriers, `spec/44_atomic_barrier.md`
  /-- LL.W rd, rj, si14 (R270). -/
  | llW (rd rj : RegNum) (si14 : BitVec 14)
  /-- SC.W rd, rj, si14 (R271). -/
  | scW (rd rj : RegNum) (si14 : BitVec 14)
  /-- DBAR hint (R275). -/
  | dbar (hint : BitVec 15)
  /-- IBAR hint (R276). -/
  | ibar (hint : BitVec 15)
  -- Miscellaneous, `spec/45_misc.md`
  /-- SYSCALL code (R290). -/
  | syscall (code : BitVec 15)
  /-- BREAK code (R291). -/
  | brk (code : BitVec 15)
  /-- RDCNTVL.W rd (R292). -/
  | rdcntvlW (rd : RegNum)
  /-- RDCNTVH.W rd (R293). -/
  | rdcntvhW (rd : RegNum)
  /-- RDCNTID rj (R294). -/
  | rdcntid (rj : RegNum)
  -- Floating-point arithmetic, `spec/46_fp_arith.md`
  /-- FADD.S fd, fj, fk (R301). -/
  | faddS (fd fj fk : RegNum)
  /-- FADD.D fd, fj, fk (R302). -/
  | faddD (fd fj fk : RegNum)
  /-- FSUB.S fd, fj, fk (R303). -/
  | fsubS (fd fj fk : RegNum)
  /-- FSUB.D fd, fj, fk (R304). -/
  | fsubD (fd fj fk : RegNum)
  /-- FMUL.S fd, fj, fk (R305). -/
  | fmulS (fd fj fk : RegNum)
  /-- FMUL.D fd, fj, fk (R306). -/
  | fmulD (fd fj fk : RegNum)
  /-- FDIV.S fd, fj, fk (R307). -/
  | fdivS (fd fj fk : RegNum)
  /-- FDIV.D fd, fj, fk (R308). -/
  | fdivD (fd fj fk : RegNum)
  /-- FMADD.S fd, fj, fk, fa (R309). -/
  | fmaddS (fd fj fk fa : RegNum)
  /-- FMADD.D fd, fj, fk, fa (R310). -/
  | fmaddD (fd fj fk fa : RegNum)
  /-- FMSUB.S fd, fj, fk, fa (R311). -/
  | fmsubS (fd fj fk fa : RegNum)
  /-- FMSUB.D fd, fj, fk, fa (R312). -/
  | fmsubD (fd fj fk fa : RegNum)
  /-- FNMADD.S fd, fj, fk, fa (R313). -/
  | fnmaddS (fd fj fk fa : RegNum)
  /-- FNMADD.D fd, fj, fk, fa (R314). -/
  | fnmaddD (fd fj fk fa : RegNum)
  /-- FNMSUB.S fd, fj, fk, fa (R315). -/
  | fnmsubS (fd fj fk fa : RegNum)
  /-- FNMSUB.D fd, fj, fk, fa (R316). -/
  | fnmsubD (fd fj fk fa : RegNum)
  /-- FMAX.S fd, fj, fk (R317). -/
  | fmaxS (fd fj fk : RegNum)
  /-- FMAX.D fd, fj, fk (R318). -/
  | fmaxD (fd fj fk : RegNum)
  /-- FMIN.S fd, fj, fk (R319). -/
  | fminS (fd fj fk : RegNum)
  /-- FMIN.D fd, fj, fk (R320). -/
  | fminD (fd fj fk : RegNum)
  /-- FMAXA.S fd, fj, fk (R321). -/
  | fmaxaS (fd fj fk : RegNum)
  /-- FMAXA.D fd, fj, fk (R322). -/
  | fmaxaD (fd fj fk : RegNum)
  /-- FMINA.S fd, fj, fk (R323). -/
  | fminaS (fd fj fk : RegNum)
  /-- FMINA.D fd, fj, fk (R324). -/
  | fminaD (fd fj fk : RegNum)
  /-- FABS.S fd, fj (R325). -/
  | fabsS (fd fj : RegNum)
  /-- FABS.D fd, fj (R326). -/
  | fabsD (fd fj : RegNum)
  /-- FNEG.S fd, fj (R327). -/
  | fnegS (fd fj : RegNum)
  /-- FNEG.D fd, fj (R328). -/
  | fnegD (fd fj : RegNum)
  /-- FSQRT.S fd, fj (R329). -/
  | fsqrtS (fd fj : RegNum)
  /-- FSQRT.D fd, fj (R330). -/
  | fsqrtD (fd fj : RegNum)
  /-- FRECIP.S fd, fj (R331). -/
  | frecipS (fd fj : RegNum)
  /-- FRECIP.D fd, fj (R332). -/
  | frecipD (fd fj : RegNum)
  /-- FRSQRT.S fd, fj (R333). -/
  | frsqrtS (fd fj : RegNum)
  /-- FRSQRT.D fd, fj (R334). -/
  | frsqrtD (fd fj : RegNum)
  /-- FCOPYSIGN.S fd, fj, fk (R335). -/
  | fcopysignS (fd fj fk : RegNum)
  /-- FCOPYSIGN.D fd, fj, fk (R336). -/
  | fcopysignD (fd fj fk : RegNum)
  /-- FCLASS.S fd, fj (R337). -/
  | fclassS (fd fj : RegNum)
  /-- FCLASS.D fd, fj (R338). -/
  | fclassD (fd fj : RegNum)
  -- Floating-point comparison and conversion, `spec/47_fp_cmp_cvt.md`
  /-- FCMP.CAF.S cd, fj, fk (R361). -/
  | fcmpCafS (cd : FlagNum) (fj fk : RegNum)
  /-- FCMP.CUN.S cd, fj, fk (R361). -/
  | fcmpCunS (cd : FlagNum) (fj fk : RegNum)
  /-- FCMP.CEQ.S cd, fj, fk (R361). -/
  | fcmpCeqS (cd : FlagNum) (fj fk : RegNum)
  /-- FCMP.CUEQ.S cd, fj, fk (R361). -/
  | fcmpCueqS (cd : FlagNum) (fj fk : RegNum)
  /-- FCMP.CLT.S cd, fj, fk (R361). -/
  | fcmpCltS (cd : FlagNum) (fj fk : RegNum)
  /-- FCMP.CULT.S cd, fj, fk (R361). -/
  | fcmpCultS (cd : FlagNum) (fj fk : RegNum)
  /-- FCMP.CLE.S cd, fj, fk (R361). -/
  | fcmpCleS (cd : FlagNum) (fj fk : RegNum)
  /-- FCMP.CULE.S cd, fj, fk (R361). -/
  | fcmpCuleS (cd : FlagNum) (fj fk : RegNum)
  /-- FCMP.CNE.S cd, fj, fk (R361). -/
  | fcmpCneS (cd : FlagNum) (fj fk : RegNum)
  /-- FCMP.COR.S cd, fj, fk (R361). -/
  | fcmpCorS (cd : FlagNum) (fj fk : RegNum)
  /-- FCMP.CUNE.S cd, fj, fk (R361). -/
  | fcmpCuneS (cd : FlagNum) (fj fk : RegNum)
  /-- FCMP.SAF.S cd, fj, fk (R361). -/
  | fcmpSafS (cd : FlagNum) (fj fk : RegNum)
  /-- FCMP.SUN.S cd, fj, fk (R361). -/
  | fcmpSunS (cd : FlagNum) (fj fk : RegNum)
  /-- FCMP.SEQ.S cd, fj, fk (R361). -/
  | fcmpSeqS (cd : FlagNum) (fj fk : RegNum)
  /-- FCMP.SUEQ.S cd, fj, fk (R361). -/
  | fcmpSueqS (cd : FlagNum) (fj fk : RegNum)
  /-- FCMP.SLT.S cd, fj, fk (R361). -/
  | fcmpSltS (cd : FlagNum) (fj fk : RegNum)
  /-- FCMP.SULT.S cd, fj, fk (R361). -/
  | fcmpSultS (cd : FlagNum) (fj fk : RegNum)
  /-- FCMP.SLE.S cd, fj, fk (R361). -/
  | fcmpSleS (cd : FlagNum) (fj fk : RegNum)
  /-- FCMP.SULE.S cd, fj, fk (R361). -/
  | fcmpSuleS (cd : FlagNum) (fj fk : RegNum)
  /-- FCMP.SNE.S cd, fj, fk (R361). -/
  | fcmpSneS (cd : FlagNum) (fj fk : RegNum)
  /-- FCMP.SOR.S cd, fj, fk (R361). -/
  | fcmpSorS (cd : FlagNum) (fj fk : RegNum)
  /-- FCMP.SUNE.S cd, fj, fk (R361). -/
  | fcmpSuneS (cd : FlagNum) (fj fk : RegNum)
  /-- FCMP.CAF.D cd, fj, fk (R362). -/
  | fcmpCafD (cd : FlagNum) (fj fk : RegNum)
  /-- FCMP.CUN.D cd, fj, fk (R362). -/
  | fcmpCunD (cd : FlagNum) (fj fk : RegNum)
  /-- FCMP.CEQ.D cd, fj, fk (R362). -/
  | fcmpCeqD (cd : FlagNum) (fj fk : RegNum)
  /-- FCMP.CUEQ.D cd, fj, fk (R362). -/
  | fcmpCueqD (cd : FlagNum) (fj fk : RegNum)
  /-- FCMP.CLT.D cd, fj, fk (R362). -/
  | fcmpCltD (cd : FlagNum) (fj fk : RegNum)
  /-- FCMP.CULT.D cd, fj, fk (R362). -/
  | fcmpCultD (cd : FlagNum) (fj fk : RegNum)
  /-- FCMP.CLE.D cd, fj, fk (R362). -/
  | fcmpCleD (cd : FlagNum) (fj fk : RegNum)
  /-- FCMP.CULE.D cd, fj, fk (R362). -/
  | fcmpCuleD (cd : FlagNum) (fj fk : RegNum)
  /-- FCMP.CNE.D cd, fj, fk (R362). -/
  | fcmpCneD (cd : FlagNum) (fj fk : RegNum)
  /-- FCMP.COR.D cd, fj, fk (R362). -/
  | fcmpCorD (cd : FlagNum) (fj fk : RegNum)
  /-- FCMP.CUNE.D cd, fj, fk (R362). -/
  | fcmpCuneD (cd : FlagNum) (fj fk : RegNum)
  /-- FCMP.SAF.D cd, fj, fk (R362). -/
  | fcmpSafD (cd : FlagNum) (fj fk : RegNum)
  /-- FCMP.SUN.D cd, fj, fk (R362). -/
  | fcmpSunD (cd : FlagNum) (fj fk : RegNum)
  /-- FCMP.SEQ.D cd, fj, fk (R362). -/
  | fcmpSeqD (cd : FlagNum) (fj fk : RegNum)
  /-- FCMP.SUEQ.D cd, fj, fk (R362). -/
  | fcmpSueqD (cd : FlagNum) (fj fk : RegNum)
  /-- FCMP.SLT.D cd, fj, fk (R362). -/
  | fcmpSltD (cd : FlagNum) (fj fk : RegNum)
  /-- FCMP.SULT.D cd, fj, fk (R362). -/
  | fcmpSultD (cd : FlagNum) (fj fk : RegNum)
  /-- FCMP.SLE.D cd, fj, fk (R362). -/
  | fcmpSleD (cd : FlagNum) (fj fk : RegNum)
  /-- FCMP.SULE.D cd, fj, fk (R362). -/
  | fcmpSuleD (cd : FlagNum) (fj fk : RegNum)
  /-- FCMP.SNE.D cd, fj, fk (R362). -/
  | fcmpSneD (cd : FlagNum) (fj fk : RegNum)
  /-- FCMP.SOR.D cd, fj, fk (R362). -/
  | fcmpSorD (cd : FlagNum) (fj fk : RegNum)
  /-- FCMP.SUNE.D cd, fj, fk (R362). -/
  | fcmpSuneD (cd : FlagNum) (fj fk : RegNum)
  /-- FCVT.S.D fd, fj (R363). -/
  | fcvtSD (fd fj : RegNum)
  /-- FCVT.D.S fd, fj (R364). -/
  | fcvtDS (fd fj : RegNum)
  /-- FFINT.S.W fd, fj (R365). -/
  | ffintSW (fd fj : RegNum)
  /-- FFINT.D.W fd, fj (R366). -/
  | ffintDW (fd fj : RegNum)
  /-- FTINT.W.S fd, fj (R367). -/
  | ftintWS (fd fj : RegNum)
  /-- FTINT.W.D fd, fj (R368). -/
  | ftintWD (fd fj : RegNum)
  /-- FTINTRM.W.S fd, fj (R369). -/
  | ftintrmWS (fd fj : RegNum)
  /-- FTINTRM.W.D fd, fj (R370). -/
  | ftintrmWD (fd fj : RegNum)
  /-- FTINTRP.W.S fd, fj (R371). -/
  | ftintrpWS (fd fj : RegNum)
  /-- FTINTRP.W.D fd, fj (R372). -/
  | ftintrpWD (fd fj : RegNum)
  /-- FTINTRZ.W.S fd, fj (R373). -/
  | ftintrzWS (fd fj : RegNum)
  /-- FTINTRZ.W.D fd, fj (R374). -/
  | ftintrzWD (fd fj : RegNum)
  /-- FTINTRNE.W.S fd, fj (R375). -/
  | ftintrneWS (fd fj : RegNum)
  /-- FTINTRNE.W.D fd, fj (R376). -/
  | ftintrneWD (fd fj : RegNum)
  -- Floating-point moves, branches, loads and stores, `spec/48_fp_move_branch_mem.md`
  /-- FMOV.S fd, fj (R390). -/
  | fmovS (fd fj : RegNum)
  /-- FMOV.D fd, fj (R391). -/
  | fmovD (fd fj : RegNum)
  /-- FSEL fd, fj, fk, ca (R392). -/
  | fsel (fd fj fk : RegNum) (ca : FlagNum)
  /-- MOVGR2FR.W fd, rj (R393). -/
  | movgr2frW (fd rj : RegNum)
  /-- MOVGR2FRH.W fd, rj (R394). -/
  | movgr2frhW (fd rj : RegNum)
  /-- MOVFR2GR.S rd, fj (R395). -/
  | movfr2grS (rd fj : RegNum)
  /-- MOVFRH2GR.S rd, fj (R396). -/
  | movfrh2grS (rd fj : RegNum)
  /-- MOVGR2FCSR fcsr, rj (R397). -/
  | movgr2fcsr (fcsr : BitVec 5) (rj : RegNum)
  /-- MOVFCSR2GR rd, fcsr (R398). -/
  | movfcsr2gr (rd : RegNum) (fcsr : BitVec 5)
  /-- MOVFR2CF cd, fj (R399). -/
  | movfr2cf (cd : FlagNum) (fj : RegNum)
  /-- MOVCF2FR fd, cj (R400). -/
  | movcf2fr (fd : RegNum) (cj : FlagNum)
  /-- MOVGR2CF cd, rj (R401). -/
  | movgr2cf (cd : FlagNum) (rj : RegNum)
  /-- MOVCF2GR rd, cj (R402). -/
  | movcf2gr (rd : RegNum) (cj : FlagNum)
  /-- BCEQZ cj, offs21 (R403). -/
  | bceqz (cj : FlagNum) (offs21 : BitVec 21)
  /-- BCNEZ cj, offs21 (R404). -/
  | bcnez (cj : FlagNum) (offs21 : BitVec 21)
  /-- FLD.S fd, rj, si12 (R405). -/
  | fldS (fd rj : RegNum) (si12 : BitVec 12)
  /-- FLD.D fd, rj, si12 (R406). -/
  | fldD (fd rj : RegNum) (si12 : BitVec 12)
  /-- FST.S fd, rj, si12 (R407). -/
  | fstS (fd rj : RegNum) (si12 : BitVec 12)
  /-- FST.D fd, rj, si12 (R408). -/
  | fstD (fd rj : RegNum) (si12 : BitVec 12)
  -- Privileged instructions, `spec/49_privileged.md`
  /-- CSRRD rd, csr (R431). -/
  | csrrd (rd : RegNum) (csr : BitVec 14)
  /-- CSRWR rd, csr (R432). -/
  | csrwr (rd : RegNum) (csr : BitVec 14)
  /-- CSRXCHG rd, rj, csr (R433). -/
  | csrxchg (rd rj : RegNum) (csr : BitVec 14)
  /-- CACOP code, rj, si12 (R435). -/
  | cacop (code : BitVec 5) (rj : RegNum) (si12 : BitVec 12)
  /-- TLBSRCH (R437). -/
  | tlbsrch
  /-- TLBRD (R438). -/
  | tlbrd
  /-- TLBWR (R439). -/
  | tlbwr
  /-- TLBFILL (R440). -/
  | tlbfill
  /-- INVTLB op, rj, rk (R441). -/
  | invtlb (op : BitVec 5) (rj rk : RegNum)
  /-- ERTN (R442). -/
  | ertn
  /-- IDLE level (R443). -/
  | idle (level : BitVec 15)
  deriving DecidableEq, Repr

end Sys2Proof
end

