-- ==== Sys2Proof/Config.lean ====
section
/-! DEFINITION. What an implementation fixes, and the values the spec leaves free.

`spec/00_scope.md` R6 lists the parameters; `spec/93_implementation_defined.md` U1 to U26 lists the open behaviours.
A parameter with a default in R6 is a plain definition at that default (DESIGN CHOICE, each in the log), and so are
TLB_ENTRIES and TLB_INDEX_BITS, which give the state its shape; every other definition of the model takes them from here.
A value the spec leaves open is an `opaque` constant: nothing can be proved about which value it is. CACOP3 and
IDLE_LEVELS, which act on the state, stand in `Machine/Priv.lean`. COUNTER_FREQ has no definition: the agenda of the state
names the ticks (log 15). -/

namespace Sys2Proof

/-- The four dividing instructions, the first argument of `DIV0(op, a)` (R6, R188). -/
inductive DivOp where
  | divW | divWu | modW | modWu
  deriving DecidableEq, Repr

/-- The two floating-point formats, binary32 and binary64 (`spec/46_fp_arith.md` R300, R341). -/
inductive FpFormat where
  | single | double
  deriving DecidableEq, Repr

/-- The operations whose NaN results are left to `FP_NUMERICS.nan_propagate` (`spec/46_fp_arith.md` R341). -/
inductive FpOp where
  | add | sub | mul | div | fma | max | min | maxMag | minMag | sqrt | convert
  deriving DecidableEq, Repr

/-- The kinds of physical memory of `MEMORY_MAP` (`spec/20_memory.md` R106). -/
inductive RegionKind where
  /-- Readable and writable memory. -/
  | ram
  /-- Readable memory that no store is described for. -/
  | rom
  /-- A device, whose behaviour the spec does not give (R107). -/
  | device
  deriving DecidableEq, Repr

/-- One region of the physical memory map (R106). Base and size are multiples of 8, so that an aligned access lies in
one region. -/
structure Region where
  base : Nat
  size : Nat
  kind : RegionKind
  deriving DecidableEq, Repr

/-- The geometry of a cache (R6, R57): `2^way` ways of `2^index` lines of `2^offset` bytes. -/
structure CacheGeom where
  way : Nat
  index : Nat
  offset : Nat
  deriving DecidableEq, Repr

namespace Config

/-- `PALEN`: the width of a physical address (R6, D14). DESIGN CHOICE, unsafe, log 1. -/
abbrev palen : Nat := 32

/-- `TLB_ENTRIES`: the number of TLB entries (R6, R56, U24). DESIGN CHOICE, unsafe, log 3. -/
abbrev tlbEntries : Nat := 32

/-- `TLB_INDEX_BITS`: the width of `TLBIDX.Index`, the least that numbers every entry (R6, R68). DESIGN CHOICE, unsafe,
log 3. -/
abbrev tlbIndexBits : Nat := 5

/-- `CSR_SET`: the numbers of the CSRs that are implemented (R6, R42, R45, D11); their write masks are the definitions
`crmdWritable` and following of `Machine/Csr.lean`. DEDUCED, unsafe, log 45. -/
def csrSet : List (BitVec 14) :=
  [0x0, 0x1, 0x2, 0x4, 0x5, 0x6, 0x7, 0xC, 0x10, 0x11, 0x12, 0x13, 0x18, 0x19, 0x1A, 0x1B, 0x20, 0x30, 0x31, 0x32, 0x33,
   0x40, 0x41, 0x42, 0x44, 0x60, 0x88, 0x98, 0x180, 0x181]

/-- `NCORES`: the number of processor cores (R6). State holds one of them; what the others do to it are moves of the
agenda (R7). DESIGN CHOICE, unsafe, log 5. -/
abbrev ncores : Nat := 1

/-- `DBAR_HINTS`: the DBAR hints with a special implementation (R6, R275, U8). DESIGN CHOICE, log 31. -/
def dbarHints : List (BitVec 15) := []

/-- `IBAR_HINTS`: the IBAR hints with a special implementation (R6, R276, U8, D17). DESIGN CHOICE, unsafe, log 31. -/
def ibarHints : List (BitVec 15) := []

/-- `CACHE_GEOM(c)`: the geometry of cache 0 (L1 instruction), 1 (L1 data), 2 (L2), or absent (R6, R57, U18). Free
parameter, log 41, log 56. -/
opaque cacheGeom : BitVec 3 → Option CacheGeom

/-- `HAS_FP`: the base floating-point instructions are implemented (R6, D9). DESIGN CHOICE, unsafe, log 2. -/
def hasFp : Bool := true

/-- `FLEN`: the width of a floating-point register, 32 or 64 (R6, D9). DESIGN CHOICE, unsafe, log 2. -/
def flen : Nat := 64

/-- `RESET_PC`: where the first instruction after reset is fetched (R6, R532). DESIGN CHOICE, unsafe, log 4. -/
def resetPc : Word := 0x1C000000#32

/-- `CPUID.CoreID`, the core's number, fixed by the implementation (R73). DESIGN CHOICE, unsafe, log 5. -/
def coreId : Fin ncores := 0

/-- `MEMORY_MAP`: what stands at each physical address; an address in no region is absent (R106, D15).
DESIGN CHOICE, unsafe, log 7: every byte is RAM. -/
def memoryMap : List Region := [{ base := 0, size := 2 ^ palen, kind := .ram }]

/-- `DIV0(op, a)`: the result of a division by zero, any word (R188, U1). Free value, log 18. -/
opaque divByZero : DivOp → Word → Word

/-- Bits 63:32 of a floating-point register after a 32-bit write, one value per draw (R31, U2). Free value, log 19. -/
opaque freeHigh : Nat → Word

/-- A free word, one per draw: a result the spec calls undetermined (R273, R398). Free value, log 26, log 39. -/
opaque freeWord : Nat → Word

/-- A free bit, one per draw: a yes-or-no the spec calls undetermined (R273). Free value, log 26. -/
opaque freeBit : Nat → Bool

/-- `TLBFILL_VICTIM()`: the entry TLBFILL writes, one per draw, any of them (R440, U11). Free value, log 27. -/
opaque tlbFillVictim : Nat → Fin tlbEntries

/-- Which of the values a stored-to byte may still be fetched as (R102): a number per draw and address, taken modulo
the count of candidates. Free value, log 28. -/
opaque staleFetch : Nat → Nat → Nat

/-- `FTINT_INVALID(x)`: the integer of an invalid conversion of the bit pattern `x` (R378, U15). Free value, log 25. -/
opaque ftintInvalid : FpFormat → Nat → Word

/-- `default_nan32`, `default_nan64`: sign and payload bits of the quiet NaN of an invalid operation (R341, U16).
Free value, log 20. -/
opaque defaultNan : FpFormat → Nat

/-- `nan_propagate(op, operands)`: sign and payload bits of a NaN result, given the operands' patterns (R341, R342, U16).
Free value, log 20. -/
opaque nanPropagate : FpFormat → FpOp → List Nat → Nat

/-- `tininess`: true when underflow is detected before rounding (R341). Free parameter, log 21. -/
opaque tininessBeforeRounding : Bool

/-- `maxmin_zero`: whether the first operand is the result, for operands +0 and -0 (R345); the Boolean argument says
that the first operand is the negative one. Free parameter, log 22. -/
opaque maxMinZeroFirst : FpFormat → FpOp → Bool → Bool

/-- `fma_inf_zero_qnan`: whether `fusedMultiplyAdd(inf, 0, qNaN)` signals V (R341). Free parameter, log 23. -/
opaque fmaInfZeroQnanInvalid : Bool

/-- The writable bits of CSR.CTAG, whose content is implementation-defined (R79). Free parameter, log 40. -/
opaque ctagWritable : Word

/-- Whether a TLB entry of a page size other than the required ones matches: page size, the entry's VPPN, the VPPN
looked up (R439: implementation-defined). Free parameter, log 38. -/
opaque otherPageMatch : BitVec 6 → BitVec 19 → BitVec 19 → Bool

/-- Which page of the pair such an entry selects for an address (R439). Free parameter, log 38. -/
opaque otherPageOdd : BitVec 6 → Word → Bool

/-- The physical address such an entry gives: page size, PPN, virtual address (R439); bits 11:0 are not used, the address
in the page of least size is kept (`pageAddress`). Free parameter, log 38. -/
opaque otherPageAddress : BitVec 6 → BitVec (palen - 12) → Word → BitVec palen

end Config

/-- A physical address, `PALEN` bits (R6, R86). -/
abbrev PAddr := BitVec Config.palen

end Sys2Proof
end

