-- ==== Sys2Proof/WellFormed.lean ====
section
/-! DEFINITION. Which terms of `Instr` are instructions of the machine: the constraints of the opcode table
(`spec/30_encoding.md` R143) and the availability of the floating-point unit (`spec/46_fp_arith.md` R300 (a),
`spec/48_fp_move_branch_mem.md` R409). -/

namespace Sys2Proof

/-- What an instruction needs of the core: the three parts of the instruction set (`spec/00_scope.md` R2), with the
floating-point part split by the register width it needs (R300 (a), R409 (c)). -/
inductive InstrUnit where
  /-- Base integer instructions: always present, every privilege level. -/
  | integer
  /-- Floating point on bits 31:0 of the registers: needs `HAS_FP`. -/
  | fp32
  /-- Floating point that reads or writes bits 63:32: needs `HAS_FP` and `FLEN = 64`. -/
  | fp64
  /-- Privileged instructions: PLV0 only (`spec/49_privileged.md` R430). -/
  | privileged
  deriving DecidableEq, Repr

/-- The part of the instruction set an instruction belongs to (R2, R300, R409, R430). -/
def Instr.unit : Instr → InstrUnit
  | .addW .. | .subW .. | .addiW .. | .lu12iW .. | .slt .. | .sltu .. | .slti .. | .sltui .. | .pcaddu12i ..
  | .mulW .. | .mulhW .. | .mulhWu .. | .divW .. | .divWu .. | .modW .. | .modWu .. | .and .. | .or ..
  | .nor .. | .xor .. | .andi .. | .ori .. | .xori .. | .sllW .. | .srlW .. | .sraW .. | .slliW .. | .srliW ..
  | .sraiW .. | .beq .. | .bne .. | .blt .. | .bge .. | .bltu .. | .bgeu .. | .b .. | .bl .. | .jirl ..
  | .ldB .. | .ldH .. | .ldW .. | .ldBu .. | .ldHu .. | .stB .. | .stH .. | .stW .. | .preld .. | .llW ..
  | .scW .. | .dbar .. | .ibar .. | .syscall .. | .brk .. | .rdcntvlW .. | .rdcntvhW .. | .rdcntid ..
    => .integer
  | .faddS .. | .fsubS .. | .fmulS .. | .fdivS .. | .fmaddS .. | .fmsubS .. | .fnmaddS .. | .fnmsubS ..
  | .fmaxS .. | .fminS .. | .fmaxaS .. | .fminaS .. | .fabsS .. | .fnegS .. | .fsqrtS .. | .frecipS ..
  | .frsqrtS .. | .fcopysignS .. | .fclassS .. | .fcmpCafS .. | .fcmpCunS .. | .fcmpCeqS .. | .fcmpCueqS ..
  | .fcmpCltS .. | .fcmpCultS .. | .fcmpCleS .. | .fcmpCuleS .. | .fcmpCneS .. | .fcmpCorS .. | .fcmpCuneS ..
  | .fcmpSafS .. | .fcmpSunS .. | .fcmpSeqS .. | .fcmpSueqS .. | .fcmpSltS .. | .fcmpSultS .. | .fcmpSleS ..
  | .fcmpSuleS .. | .fcmpSneS .. | .fcmpSorS .. | .fcmpSuneS .. | .ffintSW .. | .ftintWS .. | .ftintrmWS ..
  | .ftintrpWS .. | .ftintrzWS .. | .ftintrneWS .. | .fmovS .. | .movgr2frW .. | .movfr2grS .. | .movgr2fcsr ..
  | .movfcsr2gr .. | .movfr2cf .. | .movcf2fr .. | .movgr2cf .. | .movcf2gr .. | .bceqz .. | .bcnez ..
  | .fldS .. | .fstS ..
    => .fp32
  | .faddD .. | .fsubD .. | .fmulD .. | .fdivD .. | .fmaddD .. | .fmsubD .. | .fnmaddD .. | .fnmsubD ..
  | .fmaxD .. | .fminD .. | .fmaxaD .. | .fminaD .. | .fabsD .. | .fnegD .. | .fsqrtD .. | .frecipD ..
  | .frsqrtD .. | .fcopysignD .. | .fclassD .. | .fcmpCafD .. | .fcmpCunD .. | .fcmpCeqD .. | .fcmpCueqD ..
  | .fcmpCltD .. | .fcmpCultD .. | .fcmpCleD .. | .fcmpCuleD .. | .fcmpCneD .. | .fcmpCorD .. | .fcmpCuneD ..
  | .fcmpSafD .. | .fcmpSunD .. | .fcmpSeqD .. | .fcmpSueqD .. | .fcmpSltD .. | .fcmpSultD .. | .fcmpSleD ..
  | .fcmpSuleD .. | .fcmpSneD .. | .fcmpSorD .. | .fcmpSuneD .. | .fcvtSD .. | .fcvtDS .. | .ffintDW ..
  | .ftintWD .. | .ftintrmWD .. | .ftintrpWD .. | .ftintrzWD .. | .ftintrneWD .. | .fmovD .. | .fsel ..
  | .movgr2frhW .. | .movfrh2grS .. | .fldD .. | .fstD ..
    => .fp64
  | .csrrd .. | .csrwr .. | .csrxchg .. | .cacop .. | .tlbsrch | .tlbrd | .tlbwr | .tlbfill | .invtlb ..
  | .ertn | .idle ..
    => .privileged

/-- Whether a core with these parameters has the instruction (R300 (a), R409 (c), `spec/00_scope.md` R6). -/
def Instr.availableIn (hasFp : Bool) (flen : Nat) (i : Instr) : Bool :=
  match i.unit with
  | .integer | .privileged => true
  | .fp32 => hasFp
  | .fp64 => hasFp && flen == 64

/-- The constraints of R143: RDCNTID has `rj` other than 0, CSRXCHG has `rj` other than 0 and 1. The other fields take
any value (R144). -/
def Instr.fieldsOk (i : Instr) : Bool :=
  match i with
  | .rdcntid rj => rj != 0#5
  | .csrxchg _ rj _ => rj != 0#5 && rj != 1#5
  | _ => true

/-- An instruction of the machine: its fields are admitted and the core has its unit. -/
def Instr.wellFormed (i : Instr) : Bool := i.fieldsOk && i.availableIn Config.hasFp Config.flen

end Sys2Proof
end

