-- ==== Sys2Proof/Decode.lean ====
section
/-! DEFINITION. The decoder and, after it, the encoder.

`spec/30_encoding.md` R140: a row of the opcode table matches a word when `(w & mask) = match` and the row's constraint
holds; the fields are then extracted and split immediates reassembled (R124, R125). A word no row matches, or whose
unit the core lacks, is a reserved encoding (R142, R300 (a)). Rows and encoder are both written from R147. -/

namespace Sys2Proof

/-- One row of the opcode table (R140): fixed bits, constraint and the instruction its fields give. -/
structure OpcodeRow where
  mask : Word
  pattern : Word
  /-- The row's constraint (R143); most rows have none. -/
  guard : Word → Bool := fun _ => true
  build : Word → Instr

/-- The row matches the word (R140). -/
def OpcodeRow.accepts (r : OpcodeRow) (w : Word) : Bool := (w &&& r.mask == r.pattern) && r.guard w

/-- Integer arithmetic, `spec/40_int_arith.md` (R147). -/
def intArithRows : List OpcodeRow := [
  { mask := 0xFFFF8000#32, pattern := 0x00100000#32,
    build := fun w => .addW (field w 0 5) (field w 5 5) (field w 10 5) },
  { mask := 0xFFFF8000#32, pattern := 0x00110000#32,
    build := fun w => .subW (field w 0 5) (field w 5 5) (field w 10 5) },
  { mask := 0xFFC00000#32, pattern := 0x02800000#32,
    build := fun w => .addiW (field w 0 5) (field w 5 5) (field w 10 12) },
  { mask := 0xFE000000#32, pattern := 0x14000000#32,
    build := fun w => .lu12iW (field w 0 5) (field w 5 20) },
  { mask := 0xFFFF8000#32, pattern := 0x00120000#32,
    build := fun w => .slt (field w 0 5) (field w 5 5) (field w 10 5) },
  { mask := 0xFFFF8000#32, pattern := 0x00128000#32,
    build := fun w => .sltu (field w 0 5) (field w 5 5) (field w 10 5) },
  { mask := 0xFFC00000#32, pattern := 0x02000000#32,
    build := fun w => .slti (field w 0 5) (field w 5 5) (field w 10 12) },
  { mask := 0xFFC00000#32, pattern := 0x02400000#32,
    build := fun w => .sltui (field w 0 5) (field w 5 5) (field w 10 12) },
  { mask := 0xFE000000#32, pattern := 0x1C000000#32,
    build := fun w => .pcaddu12i (field w 0 5) (field w 5 20) },
  { mask := 0xFFFF8000#32, pattern := 0x001C0000#32,
    build := fun w => .mulW (field w 0 5) (field w 5 5) (field w 10 5) },
  { mask := 0xFFFF8000#32, pattern := 0x001C8000#32,
    build := fun w => .mulhW (field w 0 5) (field w 5 5) (field w 10 5) },
  { mask := 0xFFFF8000#32, pattern := 0x001D0000#32,
    build := fun w => .mulhWu (field w 0 5) (field w 5 5) (field w 10 5) },
  { mask := 0xFFFF8000#32, pattern := 0x00200000#32,
    build := fun w => .divW (field w 0 5) (field w 5 5) (field w 10 5) },
  { mask := 0xFFFF8000#32, pattern := 0x00210000#32,
    build := fun w => .divWu (field w 0 5) (field w 5 5) (field w 10 5) },
  { mask := 0xFFFF8000#32, pattern := 0x00208000#32,
    build := fun w => .modW (field w 0 5) (field w 5 5) (field w 10 5) },
  { mask := 0xFFFF8000#32, pattern := 0x00218000#32,
    build := fun w => .modWu (field w 0 5) (field w 5 5) (field w 10 5) } ]

/-- Logic and shifts, `spec/41_int_logic_shift.md` (R147). -/
def logicRows : List OpcodeRow := [
  { mask := 0xFFFF8000#32, pattern := 0x00148000#32,
    build := fun w => .and (field w 0 5) (field w 5 5) (field w 10 5) },
  { mask := 0xFFFF8000#32, pattern := 0x00150000#32,
    build := fun w => .or (field w 0 5) (field w 5 5) (field w 10 5) },
  { mask := 0xFFFF8000#32, pattern := 0x00140000#32,
    build := fun w => .nor (field w 0 5) (field w 5 5) (field w 10 5) },
  { mask := 0xFFFF8000#32, pattern := 0x00158000#32,
    build := fun w => .xor (field w 0 5) (field w 5 5) (field w 10 5) },
  { mask := 0xFFC00000#32, pattern := 0x03400000#32,
    build := fun w => .andi (field w 0 5) (field w 5 5) (field w 10 12) },
  { mask := 0xFFC00000#32, pattern := 0x03800000#32,
    build := fun w => .ori (field w 0 5) (field w 5 5) (field w 10 12) },
  { mask := 0xFFC00000#32, pattern := 0x03C00000#32,
    build := fun w => .xori (field w 0 5) (field w 5 5) (field w 10 12) },
  { mask := 0xFFFF8000#32, pattern := 0x00170000#32,
    build := fun w => .sllW (field w 0 5) (field w 5 5) (field w 10 5) },
  { mask := 0xFFFF8000#32, pattern := 0x00178000#32,
    build := fun w => .srlW (field w 0 5) (field w 5 5) (field w 10 5) },
  { mask := 0xFFFF8000#32, pattern := 0x00180000#32,
    build := fun w => .sraW (field w 0 5) (field w 5 5) (field w 10 5) },
  { mask := 0xFFFF8000#32, pattern := 0x00408000#32,
    build := fun w => .slliW (field w 0 5) (field w 5 5) (field w 10 5) },
  { mask := 0xFFFF8000#32, pattern := 0x00448000#32,
    build := fun w => .srliW (field w 0 5) (field w 5 5) (field w 10 5) },
  { mask := 0xFFFF8000#32, pattern := 0x00488000#32,
    build := fun w => .sraiW (field w 0 5) (field w 5 5) (field w 10 5) } ]

/-- Branches and jumps, `spec/42_branch.md` (R147). -/
def branchRows : List OpcodeRow := [
  { mask := 0xFC000000#32, pattern := 0x58000000#32,
    build := fun w => .beq (field w 5 5) (field w 0 5) (field w 10 16) },
  { mask := 0xFC000000#32, pattern := 0x5C000000#32,
    build := fun w => .bne (field w 5 5) (field w 0 5) (field w 10 16) },
  { mask := 0xFC000000#32, pattern := 0x60000000#32,
    build := fun w => .blt (field w 5 5) (field w 0 5) (field w 10 16) },
  { mask := 0xFC000000#32, pattern := 0x64000000#32,
    build := fun w => .bge (field w 5 5) (field w 0 5) (field w 10 16) },
  { mask := 0xFC000000#32, pattern := 0x68000000#32,
    build := fun w => .bltu (field w 5 5) (field w 0 5) (field w 10 16) },
  { mask := 0xFC000000#32, pattern := 0x6C000000#32,
    build := fun w => .bgeu (field w 5 5) (field w 0 5) (field w 10 16) },
  { mask := 0xFC000000#32, pattern := 0x50000000#32,
    build := fun w => .b (field w 0 10 ++ field w 10 16) },
  { mask := 0xFC000000#32, pattern := 0x54000000#32,
    build := fun w => .bl (field w 0 10 ++ field w 10 16) },
  { mask := 0xFC000000#32, pattern := 0x4C000000#32,
    build := fun w => .jirl (field w 0 5) (field w 5 5) (field w 10 16) } ]

/-- Loads, stores, prefetch, `spec/43_load_store.md` (R147). -/
def loadStoreRows : List OpcodeRow := [
  { mask := 0xFFC00000#32, pattern := 0x28000000#32,
    build := fun w => .ldB (field w 0 5) (field w 5 5) (field w 10 12) },
  { mask := 0xFFC00000#32, pattern := 0x28400000#32,
    build := fun w => .ldH (field w 0 5) (field w 5 5) (field w 10 12) },
  { mask := 0xFFC00000#32, pattern := 0x28800000#32,
    build := fun w => .ldW (field w 0 5) (field w 5 5) (field w 10 12) },
  { mask := 0xFFC00000#32, pattern := 0x2A000000#32,
    build := fun w => .ldBu (field w 0 5) (field w 5 5) (field w 10 12) },
  { mask := 0xFFC00000#32, pattern := 0x2A400000#32,
    build := fun w => .ldHu (field w 0 5) (field w 5 5) (field w 10 12) },
  { mask := 0xFFC00000#32, pattern := 0x29000000#32,
    build := fun w => .stB (field w 0 5) (field w 5 5) (field w 10 12) },
  { mask := 0xFFC00000#32, pattern := 0x29400000#32,
    build := fun w => .stH (field w 0 5) (field w 5 5) (field w 10 12) },
  { mask := 0xFFC00000#32, pattern := 0x29800000#32,
    build := fun w => .stW (field w 0 5) (field w 5 5) (field w 10 12) },
  { mask := 0xFFC00000#32, pattern := 0x2AC00000#32,
    build := fun w => .preld (field w 0 5) (field w 5 5) (field w 10 12) } ]

/-- Atomic access and barriers, `spec/44_atomic_barrier.md` (R147). -/
def atomicRows : List OpcodeRow := [
  { mask := 0xFF000000#32, pattern := 0x20000000#32,
    build := fun w => .llW (field w 0 5) (field w 5 5) (field w 10 14) },
  { mask := 0xFF000000#32, pattern := 0x21000000#32,
    build := fun w => .scW (field w 0 5) (field w 5 5) (field w 10 14) },
  { mask := 0xFFFF8000#32, pattern := 0x38720000#32,
    build := fun w => .dbar (field w 0 15) },
  { mask := 0xFFFF8000#32, pattern := 0x38728000#32,
    build := fun w => .ibar (field w 0 15) } ]

/-- Miscellaneous, `spec/45_misc.md` (R147). -/
def miscRows : List OpcodeRow := [
  { mask := 0xFFFF8000#32, pattern := 0x002B0000#32,
    build := fun w => .syscall (field w 0 15) },
  { mask := 0xFFFF8000#32, pattern := 0x002A0000#32,
    build := fun w => .brk (field w 0 15) },
  { mask := 0xFFFFFFE0#32, pattern := 0x00006000#32,
    build := fun w => .rdcntvlW (field w 0 5) },
  { mask := 0xFFFFFFE0#32, pattern := 0x00006400#32,
    build := fun w => .rdcntvhW (field w 0 5) },
  { mask := 0xFFFFFC1F#32, pattern := 0x00006000#32, guard := fun w => field w 5 5 != 0#5,
    build := fun w => .rdcntid (field w 5 5) } ]

/-- Floating-point arithmetic, `spec/46_fp_arith.md`, part 1 (R147). -/
def fpArithRows1 : List OpcodeRow := [
  { mask := 0xFFFF8000#32, pattern := 0x01008000#32,
    build := fun w => .faddS (field w 0 5) (field w 5 5) (field w 10 5) },
  { mask := 0xFFFF8000#32, pattern := 0x01010000#32,
    build := fun w => .faddD (field w 0 5) (field w 5 5) (field w 10 5) },
  { mask := 0xFFFF8000#32, pattern := 0x01028000#32,
    build := fun w => .fsubS (field w 0 5) (field w 5 5) (field w 10 5) },
  { mask := 0xFFFF8000#32, pattern := 0x01030000#32,
    build := fun w => .fsubD (field w 0 5) (field w 5 5) (field w 10 5) },
  { mask := 0xFFFF8000#32, pattern := 0x01048000#32,
    build := fun w => .fmulS (field w 0 5) (field w 5 5) (field w 10 5) },
  { mask := 0xFFFF8000#32, pattern := 0x01050000#32,
    build := fun w => .fmulD (field w 0 5) (field w 5 5) (field w 10 5) },
  { mask := 0xFFFF8000#32, pattern := 0x01068000#32,
    build := fun w => .fdivS (field w 0 5) (field w 5 5) (field w 10 5) },
  { mask := 0xFFFF8000#32, pattern := 0x01070000#32,
    build := fun w => .fdivD (field w 0 5) (field w 5 5) (field w 10 5) },
  { mask := 0xFFF00000#32, pattern := 0x08100000#32,
    build := fun w => .fmaddS (field w 0 5) (field w 5 5) (field w 10 5) (field w 15 5) },
  { mask := 0xFFF00000#32, pattern := 0x08200000#32,
    build := fun w => .fmaddD (field w 0 5) (field w 5 5) (field w 10 5) (field w 15 5) },
  { mask := 0xFFF00000#32, pattern := 0x08500000#32,
    build := fun w => .fmsubS (field w 0 5) (field w 5 5) (field w 10 5) (field w 15 5) },
  { mask := 0xFFF00000#32, pattern := 0x08600000#32,
    build := fun w => .fmsubD (field w 0 5) (field w 5 5) (field w 10 5) (field w 15 5) },
  { mask := 0xFFF00000#32, pattern := 0x08900000#32,
    build := fun w => .fnmaddS (field w 0 5) (field w 5 5) (field w 10 5) (field w 15 5) },
  { mask := 0xFFF00000#32, pattern := 0x08A00000#32,
    build := fun w => .fnmaddD (field w 0 5) (field w 5 5) (field w 10 5) (field w 15 5) },
  { mask := 0xFFF00000#32, pattern := 0x08D00000#32,
    build := fun w => .fnmsubS (field w 0 5) (field w 5 5) (field w 10 5) (field w 15 5) },
  { mask := 0xFFF00000#32, pattern := 0x08E00000#32,
    build := fun w => .fnmsubD (field w 0 5) (field w 5 5) (field w 10 5) (field w 15 5) },
  { mask := 0xFFFF8000#32, pattern := 0x01088000#32,
    build := fun w => .fmaxS (field w 0 5) (field w 5 5) (field w 10 5) },
  { mask := 0xFFFF8000#32, pattern := 0x01090000#32,
    build := fun w => .fmaxD (field w 0 5) (field w 5 5) (field w 10 5) },
  { mask := 0xFFFF8000#32, pattern := 0x010A8000#32,
    build := fun w => .fminS (field w 0 5) (field w 5 5) (field w 10 5) },
  { mask := 0xFFFF8000#32, pattern := 0x010B0000#32,
    build := fun w => .fminD (field w 0 5) (field w 5 5) (field w 10 5) } ]

/-- Floating-point arithmetic, `spec/46_fp_arith.md`, part 2 (R147). -/
def fpArithRows2 : List OpcodeRow := [
  { mask := 0xFFFF8000#32, pattern := 0x010C8000#32,
    build := fun w => .fmaxaS (field w 0 5) (field w 5 5) (field w 10 5) },
  { mask := 0xFFFF8000#32, pattern := 0x010D0000#32,
    build := fun w => .fmaxaD (field w 0 5) (field w 5 5) (field w 10 5) },
  { mask := 0xFFFF8000#32, pattern := 0x010E8000#32,
    build := fun w => .fminaS (field w 0 5) (field w 5 5) (field w 10 5) },
  { mask := 0xFFFF8000#32, pattern := 0x010F0000#32,
    build := fun w => .fminaD (field w 0 5) (field w 5 5) (field w 10 5) },
  { mask := 0xFFFFFC00#32, pattern := 0x01140400#32,
    build := fun w => .fabsS (field w 0 5) (field w 5 5) },
  { mask := 0xFFFFFC00#32, pattern := 0x01140800#32,
    build := fun w => .fabsD (field w 0 5) (field w 5 5) },
  { mask := 0xFFFFFC00#32, pattern := 0x01141400#32,
    build := fun w => .fnegS (field w 0 5) (field w 5 5) },
  { mask := 0xFFFFFC00#32, pattern := 0x01141800#32,
    build := fun w => .fnegD (field w 0 5) (field w 5 5) },
  { mask := 0xFFFFFC00#32, pattern := 0x01144400#32,
    build := fun w => .fsqrtS (field w 0 5) (field w 5 5) },
  { mask := 0xFFFFFC00#32, pattern := 0x01144800#32,
    build := fun w => .fsqrtD (field w 0 5) (field w 5 5) },
  { mask := 0xFFFFFC00#32, pattern := 0x01145400#32,
    build := fun w => .frecipS (field w 0 5) (field w 5 5) },
  { mask := 0xFFFFFC00#32, pattern := 0x01145800#32,
    build := fun w => .frecipD (field w 0 5) (field w 5 5) },
  { mask := 0xFFFFFC00#32, pattern := 0x01146400#32,
    build := fun w => .frsqrtS (field w 0 5) (field w 5 5) },
  { mask := 0xFFFFFC00#32, pattern := 0x01146800#32,
    build := fun w => .frsqrtD (field w 0 5) (field w 5 5) },
  { mask := 0xFFFF8000#32, pattern := 0x01128000#32,
    build := fun w => .fcopysignS (field w 0 5) (field w 5 5) (field w 10 5) },
  { mask := 0xFFFF8000#32, pattern := 0x01130000#32,
    build := fun w => .fcopysignD (field w 0 5) (field w 5 5) (field w 10 5) },
  { mask := 0xFFFFFC00#32, pattern := 0x01143400#32,
    build := fun w => .fclassS (field w 0 5) (field w 5 5) },
  { mask := 0xFFFFFC00#32, pattern := 0x01143800#32,
    build := fun w => .fclassD (field w 0 5) (field w 5 5) } ]

/-- Floating-point comparison and conversion, `spec/47_fp_cmp_cvt.md`, part 1 (R147). -/
def fpCmpCvtRows1 : List OpcodeRow := [
  { mask := 0xFFFF8018#32, pattern := 0x0C100000#32,
    build := fun w => .fcmpCafS (field w 0 3) (field w 5 5) (field w 10 5) },
  { mask := 0xFFFF8018#32, pattern := 0x0C140000#32,
    build := fun w => .fcmpCunS (field w 0 3) (field w 5 5) (field w 10 5) },
  { mask := 0xFFFF8018#32, pattern := 0x0C120000#32,
    build := fun w => .fcmpCeqS (field w 0 3) (field w 5 5) (field w 10 5) },
  { mask := 0xFFFF8018#32, pattern := 0x0C160000#32,
    build := fun w => .fcmpCueqS (field w 0 3) (field w 5 5) (field w 10 5) },
  { mask := 0xFFFF8018#32, pattern := 0x0C110000#32,
    build := fun w => .fcmpCltS (field w 0 3) (field w 5 5) (field w 10 5) },
  { mask := 0xFFFF8018#32, pattern := 0x0C150000#32,
    build := fun w => .fcmpCultS (field w 0 3) (field w 5 5) (field w 10 5) },
  { mask := 0xFFFF8018#32, pattern := 0x0C130000#32,
    build := fun w => .fcmpCleS (field w 0 3) (field w 5 5) (field w 10 5) },
  { mask := 0xFFFF8018#32, pattern := 0x0C170000#32,
    build := fun w => .fcmpCuleS (field w 0 3) (field w 5 5) (field w 10 5) },
  { mask := 0xFFFF8018#32, pattern := 0x0C180000#32,
    build := fun w => .fcmpCneS (field w 0 3) (field w 5 5) (field w 10 5) },
  { mask := 0xFFFF8018#32, pattern := 0x0C1A0000#32,
    build := fun w => .fcmpCorS (field w 0 3) (field w 5 5) (field w 10 5) },
  { mask := 0xFFFF8018#32, pattern := 0x0C1C0000#32,
    build := fun w => .fcmpCuneS (field w 0 3) (field w 5 5) (field w 10 5) },
  { mask := 0xFFFF8018#32, pattern := 0x0C108000#32,
    build := fun w => .fcmpSafS (field w 0 3) (field w 5 5) (field w 10 5) },
  { mask := 0xFFFF8018#32, pattern := 0x0C148000#32,
    build := fun w => .fcmpSunS (field w 0 3) (field w 5 5) (field w 10 5) },
  { mask := 0xFFFF8018#32, pattern := 0x0C128000#32,
    build := fun w => .fcmpSeqS (field w 0 3) (field w 5 5) (field w 10 5) },
  { mask := 0xFFFF8018#32, pattern := 0x0C168000#32,
    build := fun w => .fcmpSueqS (field w 0 3) (field w 5 5) (field w 10 5) },
  { mask := 0xFFFF8018#32, pattern := 0x0C118000#32,
    build := fun w => .fcmpSltS (field w 0 3) (field w 5 5) (field w 10 5) },
  { mask := 0xFFFF8018#32, pattern := 0x0C158000#32,
    build := fun w => .fcmpSultS (field w 0 3) (field w 5 5) (field w 10 5) },
  { mask := 0xFFFF8018#32, pattern := 0x0C138000#32,
    build := fun w => .fcmpSleS (field w 0 3) (field w 5 5) (field w 10 5) },
  { mask := 0xFFFF8018#32, pattern := 0x0C178000#32,
    build := fun w => .fcmpSuleS (field w 0 3) (field w 5 5) (field w 10 5) },
  { mask := 0xFFFF8018#32, pattern := 0x0C188000#32,
    build := fun w => .fcmpSneS (field w 0 3) (field w 5 5) (field w 10 5) } ]

/-- Floating-point comparison and conversion, `spec/47_fp_cmp_cvt.md`, part 2 (R147). -/
def fpCmpCvtRows2 : List OpcodeRow := [
  { mask := 0xFFFF8018#32, pattern := 0x0C1A8000#32,
    build := fun w => .fcmpSorS (field w 0 3) (field w 5 5) (field w 10 5) },
  { mask := 0xFFFF8018#32, pattern := 0x0C1C8000#32,
    build := fun w => .fcmpSuneS (field w 0 3) (field w 5 5) (field w 10 5) },
  { mask := 0xFFFF8018#32, pattern := 0x0C200000#32,
    build := fun w => .fcmpCafD (field w 0 3) (field w 5 5) (field w 10 5) },
  { mask := 0xFFFF8018#32, pattern := 0x0C240000#32,
    build := fun w => .fcmpCunD (field w 0 3) (field w 5 5) (field w 10 5) },
  { mask := 0xFFFF8018#32, pattern := 0x0C220000#32,
    build := fun w => .fcmpCeqD (field w 0 3) (field w 5 5) (field w 10 5) },
  { mask := 0xFFFF8018#32, pattern := 0x0C260000#32,
    build := fun w => .fcmpCueqD (field w 0 3) (field w 5 5) (field w 10 5) },
  { mask := 0xFFFF8018#32, pattern := 0x0C210000#32,
    build := fun w => .fcmpCltD (field w 0 3) (field w 5 5) (field w 10 5) },
  { mask := 0xFFFF8018#32, pattern := 0x0C250000#32,
    build := fun w => .fcmpCultD (field w 0 3) (field w 5 5) (field w 10 5) },
  { mask := 0xFFFF8018#32, pattern := 0x0C230000#32,
    build := fun w => .fcmpCleD (field w 0 3) (field w 5 5) (field w 10 5) },
  { mask := 0xFFFF8018#32, pattern := 0x0C270000#32,
    build := fun w => .fcmpCuleD (field w 0 3) (field w 5 5) (field w 10 5) },
  { mask := 0xFFFF8018#32, pattern := 0x0C280000#32,
    build := fun w => .fcmpCneD (field w 0 3) (field w 5 5) (field w 10 5) },
  { mask := 0xFFFF8018#32, pattern := 0x0C2A0000#32,
    build := fun w => .fcmpCorD (field w 0 3) (field w 5 5) (field w 10 5) },
  { mask := 0xFFFF8018#32, pattern := 0x0C2C0000#32,
    build := fun w => .fcmpCuneD (field w 0 3) (field w 5 5) (field w 10 5) },
  { mask := 0xFFFF8018#32, pattern := 0x0C208000#32,
    build := fun w => .fcmpSafD (field w 0 3) (field w 5 5) (field w 10 5) },
  { mask := 0xFFFF8018#32, pattern := 0x0C248000#32,
    build := fun w => .fcmpSunD (field w 0 3) (field w 5 5) (field w 10 5) },
  { mask := 0xFFFF8018#32, pattern := 0x0C228000#32,
    build := fun w => .fcmpSeqD (field w 0 3) (field w 5 5) (field w 10 5) },
  { mask := 0xFFFF8018#32, pattern := 0x0C268000#32,
    build := fun w => .fcmpSueqD (field w 0 3) (field w 5 5) (field w 10 5) },
  { mask := 0xFFFF8018#32, pattern := 0x0C218000#32,
    build := fun w => .fcmpSltD (field w 0 3) (field w 5 5) (field w 10 5) },
  { mask := 0xFFFF8018#32, pattern := 0x0C258000#32,
    build := fun w => .fcmpSultD (field w 0 3) (field w 5 5) (field w 10 5) },
  { mask := 0xFFFF8018#32, pattern := 0x0C238000#32,
    build := fun w => .fcmpSleD (field w 0 3) (field w 5 5) (field w 10 5) } ]

/-- Floating-point comparison and conversion, `spec/47_fp_cmp_cvt.md`, part 3 (R147). -/
def fpCmpCvtRows3 : List OpcodeRow := [
  { mask := 0xFFFF8018#32, pattern := 0x0C278000#32,
    build := fun w => .fcmpSuleD (field w 0 3) (field w 5 5) (field w 10 5) },
  { mask := 0xFFFF8018#32, pattern := 0x0C288000#32,
    build := fun w => .fcmpSneD (field w 0 3) (field w 5 5) (field w 10 5) },
  { mask := 0xFFFF8018#32, pattern := 0x0C2A8000#32,
    build := fun w => .fcmpSorD (field w 0 3) (field w 5 5) (field w 10 5) },
  { mask := 0xFFFF8018#32, pattern := 0x0C2C8000#32,
    build := fun w => .fcmpSuneD (field w 0 3) (field w 5 5) (field w 10 5) },
  { mask := 0xFFFFFC00#32, pattern := 0x01191800#32,
    build := fun w => .fcvtSD (field w 0 5) (field w 5 5) },
  { mask := 0xFFFFFC00#32, pattern := 0x01192400#32,
    build := fun w => .fcvtDS (field w 0 5) (field w 5 5) },
  { mask := 0xFFFFFC00#32, pattern := 0x011D1000#32,
    build := fun w => .ffintSW (field w 0 5) (field w 5 5) },
  { mask := 0xFFFFFC00#32, pattern := 0x011D2000#32,
    build := fun w => .ffintDW (field w 0 5) (field w 5 5) },
  { mask := 0xFFFFFC00#32, pattern := 0x011B0400#32,
    build := fun w => .ftintWS (field w 0 5) (field w 5 5) },
  { mask := 0xFFFFFC00#32, pattern := 0x011B0800#32,
    build := fun w => .ftintWD (field w 0 5) (field w 5 5) },
  { mask := 0xFFFFFC00#32, pattern := 0x011A0400#32,
    build := fun w => .ftintrmWS (field w 0 5) (field w 5 5) },
  { mask := 0xFFFFFC00#32, pattern := 0x011A0800#32,
    build := fun w => .ftintrmWD (field w 0 5) (field w 5 5) },
  { mask := 0xFFFFFC00#32, pattern := 0x011A4400#32,
    build := fun w => .ftintrpWS (field w 0 5) (field w 5 5) },
  { mask := 0xFFFFFC00#32, pattern := 0x011A4800#32,
    build := fun w => .ftintrpWD (field w 0 5) (field w 5 5) },
  { mask := 0xFFFFFC00#32, pattern := 0x011A8400#32,
    build := fun w => .ftintrzWS (field w 0 5) (field w 5 5) },
  { mask := 0xFFFFFC00#32, pattern := 0x011A8800#32,
    build := fun w => .ftintrzWD (field w 0 5) (field w 5 5) },
  { mask := 0xFFFFFC00#32, pattern := 0x011AC400#32,
    build := fun w => .ftintrneWS (field w 0 5) (field w 5 5) },
  { mask := 0xFFFFFC00#32, pattern := 0x011AC800#32,
    build := fun w => .ftintrneWD (field w 0 5) (field w 5 5) } ]

/-- Floating-point moves, branches, loads and stores, `spec/48_fp_move_branch_mem.md` (R147). -/
def fpMoveRows : List OpcodeRow := [
  { mask := 0xFFFFFC00#32, pattern := 0x01149400#32,
    build := fun w => .fmovS (field w 0 5) (field w 5 5) },
  { mask := 0xFFFFFC00#32, pattern := 0x01149800#32,
    build := fun w => .fmovD (field w 0 5) (field w 5 5) },
  { mask := 0xFFFC0000#32, pattern := 0x0D000000#32,
    build := fun w => .fsel (field w 0 5) (field w 5 5) (field w 10 5) (field w 15 3) },
  { mask := 0xFFFFFC00#32, pattern := 0x0114A400#32,
    build := fun w => .movgr2frW (field w 0 5) (field w 5 5) },
  { mask := 0xFFFFFC00#32, pattern := 0x0114A800#32,
    build := fun w => .movgr2frhW (field w 0 5) (field w 5 5) },
  { mask := 0xFFFFFC00#32, pattern := 0x0114B400#32,
    build := fun w => .movfr2grS (field w 0 5) (field w 5 5) },
  { mask := 0xFFFFFC00#32, pattern := 0x0114B800#32,
    build := fun w => .movfrh2grS (field w 0 5) (field w 5 5) },
  { mask := 0xFFFFFC00#32, pattern := 0x0114C000#32,
    build := fun w => .movgr2fcsr (field w 0 5) (field w 5 5) },
  { mask := 0xFFFFFC00#32, pattern := 0x0114C800#32,
    build := fun w => .movfcsr2gr (field w 0 5) (field w 5 5) },
  { mask := 0xFFFFFC18#32, pattern := 0x0114D000#32,
    build := fun w => .movfr2cf (field w 0 3) (field w 5 5) },
  { mask := 0xFFFFFF00#32, pattern := 0x0114D400#32,
    build := fun w => .movcf2fr (field w 0 5) (field w 5 3) },
  { mask := 0xFFFFFC18#32, pattern := 0x0114D800#32,
    build := fun w => .movgr2cf (field w 0 3) (field w 5 5) },
  { mask := 0xFFFFFF00#32, pattern := 0x0114DC00#32,
    build := fun w => .movcf2gr (field w 0 5) (field w 5 3) },
  { mask := 0xFC000300#32, pattern := 0x48000000#32,
    build := fun w => .bceqz (field w 5 3) (field w 0 5 ++ field w 10 16) },
  { mask := 0xFC000300#32, pattern := 0x48000100#32,
    build := fun w => .bcnez (field w 5 3) (field w 0 5 ++ field w 10 16) },
  { mask := 0xFFC00000#32, pattern := 0x2B000000#32,
    build := fun w => .fldS (field w 0 5) (field w 5 5) (field w 10 12) },
  { mask := 0xFFC00000#32, pattern := 0x2B400000#32,
    build := fun w => .fldD (field w 0 5) (field w 5 5) (field w 10 12) },
  { mask := 0xFFC00000#32, pattern := 0x2B800000#32,
    build := fun w => .fstS (field w 0 5) (field w 5 5) (field w 10 12) },
  { mask := 0xFFC00000#32, pattern := 0x2BC00000#32,
    build := fun w => .fstD (field w 0 5) (field w 5 5) (field w 10 12) } ]

/-- Privileged instructions, `spec/49_privileged.md` (R147). -/
def privRows : List OpcodeRow := [
  { mask := 0xFF0003E0#32, pattern := 0x04000000#32,
    build := fun w => .csrrd (field w 0 5) (field w 10 14) },
  { mask := 0xFF0003E0#32, pattern := 0x04000020#32,
    build := fun w => .csrwr (field w 0 5) (field w 10 14) },
  { mask := 0xFF000000#32, pattern := 0x04000000#32, guard := fun w => field w 5 5 != 0#5 && field w 5 5 != 1#5,
    build := fun w => .csrxchg (field w 0 5) (field w 5 5) (field w 10 14) },
  { mask := 0xFFC00000#32, pattern := 0x06000000#32,
    build := fun w => .cacop (field w 0 5) (field w 5 5) (field w 10 12) },
  { mask := 0xFFFFFFFF#32, pattern := 0x06482800#32,
    build := fun _ => .tlbsrch },
  { mask := 0xFFFFFFFF#32, pattern := 0x06482C00#32,
    build := fun _ => .tlbrd },
  { mask := 0xFFFFFFFF#32, pattern := 0x06483000#32,
    build := fun _ => .tlbwr },
  { mask := 0xFFFFFFFF#32, pattern := 0x06483400#32,
    build := fun _ => .tlbfill },
  { mask := 0xFFFF8000#32, pattern := 0x06498000#32,
    build := fun w => .invtlb (field w 0 5) (field w 5 5) (field w 10 5) },
  { mask := 0xFFFFFFFF#32, pattern := 0x06483800#32,
    build := fun _ => .ertn },
  { mask := 0xFFFF8000#32, pattern := 0x06488000#32,
    build := fun w => .idle (field w 0 15) } ]

/-- The whole opcode table (R147). -/
def opcodeRows : List OpcodeRow :=
  intArithRows ++ logicRows ++ branchRows ++ loadStoreRows ++ atomicRows ++ miscRows ++ fpArithRows1 ++
  fpArithRows2 ++ fpCmpCvtRows1 ++ fpCmpCvtRows2 ++ fpCmpCvtRows3 ++ fpMoveRows ++ privRows

/-- Why bytes are not an instruction. -/
inductive RejectReason where
  /-- No row of the opcode table matches, or the core lacks the unit (R142, R300 (a)): the machine raises INE. -/
  | reservedEncoding
  /-- Fewer than the four bytes of an instruction word (R120). -/
  | truncated
  deriving DecidableEq, Repr

/-- What the decoder answers. -/
inductive Decoded where
  | ok (i : Instr)
  | rejected (why : RejectReason)
  deriving DecidableEq, Repr

/-- The decoding procedure of R140 on one instruction word. -/
def decodeWord (w : Word) : Decoded :=
  match opcodeRows.find? (fun r => r.accepts w) with
  | none => .rejected .reservedEncoding
  | some r =>
    if (r.build w).availableIn Config.hasFp Config.flen then .ok (r.build w) else .rejected .reservedEncoding

/-- The instruction word four bytes hold, the byte at the lowest address least significant (R120, R85). -/
def wordOfBytes (b0 b1 b2 b3 : Byte) : Word := b3 ++ b2 ++ b1 ++ b0

/-- The instruction at the head of a list of bytes (R120). -/
def decodeBytes : List Byte → Decoded
  | b0 :: b1 :: b2 :: b3 :: _ => decodeWord (wordOfBytes b0 b1 b2 b3)
  | _ => .rejected .truncated

/-- The four bytes of a word as memory holds them (R85). -/
def bytesOfWord (w : Word) : List Byte :=
  [w.extractLsb' 0 8, w.extractLsb' 8 8, w.extractLsb' 16 8, w.extractLsb' 24 8]

/-- The instruction the decoder reads from an instruction word given as a number: bits from `nbits` up are 0, the
bytes stand in memory order. -/
def decodeTableWord (nbits w : Nat) : Option Instr :=
  match decodeBytes (bytesOfWord (BitVec.ofNat 32 (w % 2 ^ nbits))) with
  | .ok i => some i
  | .rejected _ => none

/-- The word of an instruction: the row's fixed bits with every operand in its field (R123, R124, R125, R147). -/
def encode (i : Instr) : Word :=
  match i with
  | .addW rd rj rk => 0x00100000#32 ||| place rk 10 ||| place rj 5 ||| place rd 0
  | .subW rd rj rk => 0x00110000#32 ||| place rk 10 ||| place rj 5 ||| place rd 0
  | .addiW rd rj si12 => 0x02800000#32 ||| place si12 10 ||| place rj 5 ||| place rd 0
  | .lu12iW rd si20 => 0x14000000#32 ||| place si20 5 ||| place rd 0
  | .slt rd rj rk => 0x00120000#32 ||| place rk 10 ||| place rj 5 ||| place rd 0
  | .sltu rd rj rk => 0x00128000#32 ||| place rk 10 ||| place rj 5 ||| place rd 0
  | .slti rd rj si12 => 0x02000000#32 ||| place si12 10 ||| place rj 5 ||| place rd 0
  | .sltui rd rj si12 => 0x02400000#32 ||| place si12 10 ||| place rj 5 ||| place rd 0
  | .pcaddu12i rd si20 => 0x1C000000#32 ||| place si20 5 ||| place rd 0
  | .mulW rd rj rk => 0x001C0000#32 ||| place rk 10 ||| place rj 5 ||| place rd 0
  | .mulhW rd rj rk => 0x001C8000#32 ||| place rk 10 ||| place rj 5 ||| place rd 0
  | .mulhWu rd rj rk => 0x001D0000#32 ||| place rk 10 ||| place rj 5 ||| place rd 0
  | .divW rd rj rk => 0x00200000#32 ||| place rk 10 ||| place rj 5 ||| place rd 0
  | .divWu rd rj rk => 0x00210000#32 ||| place rk 10 ||| place rj 5 ||| place rd 0
  | .modW rd rj rk => 0x00208000#32 ||| place rk 10 ||| place rj 5 ||| place rd 0
  | .modWu rd rj rk => 0x00218000#32 ||| place rk 10 ||| place rj 5 ||| place rd 0
  | .and rd rj rk => 0x00148000#32 ||| place rk 10 ||| place rj 5 ||| place rd 0
  | .or rd rj rk => 0x00150000#32 ||| place rk 10 ||| place rj 5 ||| place rd 0
  | .nor rd rj rk => 0x00140000#32 ||| place rk 10 ||| place rj 5 ||| place rd 0
  | .xor rd rj rk => 0x00158000#32 ||| place rk 10 ||| place rj 5 ||| place rd 0
  | .andi rd rj ui12 => 0x03400000#32 ||| place ui12 10 ||| place rj 5 ||| place rd 0
  | .ori rd rj ui12 => 0x03800000#32 ||| place ui12 10 ||| place rj 5 ||| place rd 0
  | .xori rd rj ui12 => 0x03C00000#32 ||| place ui12 10 ||| place rj 5 ||| place rd 0
  | .sllW rd rj rk => 0x00170000#32 ||| place rk 10 ||| place rj 5 ||| place rd 0
  | .srlW rd rj rk => 0x00178000#32 ||| place rk 10 ||| place rj 5 ||| place rd 0
  | .sraW rd rj rk => 0x00180000#32 ||| place rk 10 ||| place rj 5 ||| place rd 0
  | .slliW rd rj ui5 => 0x00408000#32 ||| place ui5 10 ||| place rj 5 ||| place rd 0
  | .srliW rd rj ui5 => 0x00448000#32 ||| place ui5 10 ||| place rj 5 ||| place rd 0
  | .sraiW rd rj ui5 => 0x00488000#32 ||| place ui5 10 ||| place rj 5 ||| place rd 0
  | .beq rj rd offs16 => 0x58000000#32 ||| place offs16 10 ||| place rj 5 ||| place rd 0
  | .bne rj rd offs16 => 0x5C000000#32 ||| place offs16 10 ||| place rj 5 ||| place rd 0
  | .blt rj rd offs16 => 0x60000000#32 ||| place offs16 10 ||| place rj 5 ||| place rd 0
  | .bge rj rd offs16 => 0x64000000#32 ||| place offs16 10 ||| place rj 5 ||| place rd 0
  | .bltu rj rd offs16 => 0x68000000#32 ||| place offs16 10 ||| place rj 5 ||| place rd 0
  | .bgeu rj rd offs16 => 0x6C000000#32 ||| place offs16 10 ||| place rj 5 ||| place rd 0
  | .b offs26 => 0x50000000#32 ||| place (offs26.extractLsb' 0 16) 10 ||| place (offs26.extractLsb' 16 10) 0
  | .bl offs26 => 0x54000000#32 ||| place (offs26.extractLsb' 0 16) 10 ||| place (offs26.extractLsb' 16 10) 0
  | .jirl rd rj offs16 => 0x4C000000#32 ||| place offs16 10 ||| place rj 5 ||| place rd 0
  | .ldB rd rj si12 => 0x28000000#32 ||| place si12 10 ||| place rj 5 ||| place rd 0
  | .ldH rd rj si12 => 0x28400000#32 ||| place si12 10 ||| place rj 5 ||| place rd 0
  | .ldW rd rj si12 => 0x28800000#32 ||| place si12 10 ||| place rj 5 ||| place rd 0
  | .ldBu rd rj si12 => 0x2A000000#32 ||| place si12 10 ||| place rj 5 ||| place rd 0
  | .ldHu rd rj si12 => 0x2A400000#32 ||| place si12 10 ||| place rj 5 ||| place rd 0
  | .stB rd rj si12 => 0x29000000#32 ||| place si12 10 ||| place rj 5 ||| place rd 0
  | .stH rd rj si12 => 0x29400000#32 ||| place si12 10 ||| place rj 5 ||| place rd 0
  | .stW rd rj si12 => 0x29800000#32 ||| place si12 10 ||| place rj 5 ||| place rd 0
  | .preld hint rj si12 => 0x2AC00000#32 ||| place si12 10 ||| place rj 5 ||| place hint 0
  | .llW rd rj si14 => 0x20000000#32 ||| place si14 10 ||| place rj 5 ||| place rd 0
  | .scW rd rj si14 => 0x21000000#32 ||| place si14 10 ||| place rj 5 ||| place rd 0
  | .dbar hint => 0x38720000#32 ||| place hint 0
  | .ibar hint => 0x38728000#32 ||| place hint 0
  | .syscall code => 0x002B0000#32 ||| place code 0
  | .brk code => 0x002A0000#32 ||| place code 0
  | .rdcntvlW rd => 0x00006000#32 ||| place rd 0
  | .rdcntvhW rd => 0x00006400#32 ||| place rd 0
  | .rdcntid rj => 0x00006000#32 ||| place rj 5
  | .faddS fd fj fk => 0x01008000#32 ||| place fk 10 ||| place fj 5 ||| place fd 0
  | .faddD fd fj fk => 0x01010000#32 ||| place fk 10 ||| place fj 5 ||| place fd 0
  | .fsubS fd fj fk => 0x01028000#32 ||| place fk 10 ||| place fj 5 ||| place fd 0
  | .fsubD fd fj fk => 0x01030000#32 ||| place fk 10 ||| place fj 5 ||| place fd 0
  | .fmulS fd fj fk => 0x01048000#32 ||| place fk 10 ||| place fj 5 ||| place fd 0
  | .fmulD fd fj fk => 0x01050000#32 ||| place fk 10 ||| place fj 5 ||| place fd 0
  | .fdivS fd fj fk => 0x01068000#32 ||| place fk 10 ||| place fj 5 ||| place fd 0
  | .fdivD fd fj fk => 0x01070000#32 ||| place fk 10 ||| place fj 5 ||| place fd 0
  | .fmaddS fd fj fk fa => 0x08100000#32 ||| place fa 15 ||| place fk 10 ||| place fj 5 ||| place fd 0
  | .fmaddD fd fj fk fa => 0x08200000#32 ||| place fa 15 ||| place fk 10 ||| place fj 5 ||| place fd 0
  | .fmsubS fd fj fk fa => 0x08500000#32 ||| place fa 15 ||| place fk 10 ||| place fj 5 ||| place fd 0
  | .fmsubD fd fj fk fa => 0x08600000#32 ||| place fa 15 ||| place fk 10 ||| place fj 5 ||| place fd 0
  | .fnmaddS fd fj fk fa => 0x08900000#32 ||| place fa 15 ||| place fk 10 ||| place fj 5 ||| place fd 0
  | .fnmaddD fd fj fk fa => 0x08A00000#32 ||| place fa 15 ||| place fk 10 ||| place fj 5 ||| place fd 0
  | .fnmsubS fd fj fk fa => 0x08D00000#32 ||| place fa 15 ||| place fk 10 ||| place fj 5 ||| place fd 0
  | .fnmsubD fd fj fk fa => 0x08E00000#32 ||| place fa 15 ||| place fk 10 ||| place fj 5 ||| place fd 0
  | .fmaxS fd fj fk => 0x01088000#32 ||| place fk 10 ||| place fj 5 ||| place fd 0
  | .fmaxD fd fj fk => 0x01090000#32 ||| place fk 10 ||| place fj 5 ||| place fd 0
  | .fminS fd fj fk => 0x010A8000#32 ||| place fk 10 ||| place fj 5 ||| place fd 0
  | .fminD fd fj fk => 0x010B0000#32 ||| place fk 10 ||| place fj 5 ||| place fd 0
  | .fmaxaS fd fj fk => 0x010C8000#32 ||| place fk 10 ||| place fj 5 ||| place fd 0
  | .fmaxaD fd fj fk => 0x010D0000#32 ||| place fk 10 ||| place fj 5 ||| place fd 0
  | .fminaS fd fj fk => 0x010E8000#32 ||| place fk 10 ||| place fj 5 ||| place fd 0
  | .fminaD fd fj fk => 0x010F0000#32 ||| place fk 10 ||| place fj 5 ||| place fd 0
  | .fabsS fd fj => 0x01140400#32 ||| place fj 5 ||| place fd 0
  | .fabsD fd fj => 0x01140800#32 ||| place fj 5 ||| place fd 0
  | .fnegS fd fj => 0x01141400#32 ||| place fj 5 ||| place fd 0
  | .fnegD fd fj => 0x01141800#32 ||| place fj 5 ||| place fd 0
  | .fsqrtS fd fj => 0x01144400#32 ||| place fj 5 ||| place fd 0
  | .fsqrtD fd fj => 0x01144800#32 ||| place fj 5 ||| place fd 0
  | .frecipS fd fj => 0x01145400#32 ||| place fj 5 ||| place fd 0
  | .frecipD fd fj => 0x01145800#32 ||| place fj 5 ||| place fd 0
  | .frsqrtS fd fj => 0x01146400#32 ||| place fj 5 ||| place fd 0
  | .frsqrtD fd fj => 0x01146800#32 ||| place fj 5 ||| place fd 0
  | .fcopysignS fd fj fk => 0x01128000#32 ||| place fk 10 ||| place fj 5 ||| place fd 0
  | .fcopysignD fd fj fk => 0x01130000#32 ||| place fk 10 ||| place fj 5 ||| place fd 0
  | .fclassS fd fj => 0x01143400#32 ||| place fj 5 ||| place fd 0
  | .fclassD fd fj => 0x01143800#32 ||| place fj 5 ||| place fd 0
  | .fcmpCafS cd fj fk => 0x0C100000#32 ||| place fk 10 ||| place fj 5 ||| place cd 0
  | .fcmpCunS cd fj fk => 0x0C140000#32 ||| place fk 10 ||| place fj 5 ||| place cd 0
  | .fcmpCeqS cd fj fk => 0x0C120000#32 ||| place fk 10 ||| place fj 5 ||| place cd 0
  | .fcmpCueqS cd fj fk => 0x0C160000#32 ||| place fk 10 ||| place fj 5 ||| place cd 0
  | .fcmpCltS cd fj fk => 0x0C110000#32 ||| place fk 10 ||| place fj 5 ||| place cd 0
  | .fcmpCultS cd fj fk => 0x0C150000#32 ||| place fk 10 ||| place fj 5 ||| place cd 0
  | .fcmpCleS cd fj fk => 0x0C130000#32 ||| place fk 10 ||| place fj 5 ||| place cd 0
  | .fcmpCuleS cd fj fk => 0x0C170000#32 ||| place fk 10 ||| place fj 5 ||| place cd 0
  | .fcmpCneS cd fj fk => 0x0C180000#32 ||| place fk 10 ||| place fj 5 ||| place cd 0
  | .fcmpCorS cd fj fk => 0x0C1A0000#32 ||| place fk 10 ||| place fj 5 ||| place cd 0
  | .fcmpCuneS cd fj fk => 0x0C1C0000#32 ||| place fk 10 ||| place fj 5 ||| place cd 0
  | .fcmpSafS cd fj fk => 0x0C108000#32 ||| place fk 10 ||| place fj 5 ||| place cd 0
  | .fcmpSunS cd fj fk => 0x0C148000#32 ||| place fk 10 ||| place fj 5 ||| place cd 0
  | .fcmpSeqS cd fj fk => 0x0C128000#32 ||| place fk 10 ||| place fj 5 ||| place cd 0
  | .fcmpSueqS cd fj fk => 0x0C168000#32 ||| place fk 10 ||| place fj 5 ||| place cd 0
  | .fcmpSltS cd fj fk => 0x0C118000#32 ||| place fk 10 ||| place fj 5 ||| place cd 0
  | .fcmpSultS cd fj fk => 0x0C158000#32 ||| place fk 10 ||| place fj 5 ||| place cd 0
  | .fcmpSleS cd fj fk => 0x0C138000#32 ||| place fk 10 ||| place fj 5 ||| place cd 0
  | .fcmpSuleS cd fj fk => 0x0C178000#32 ||| place fk 10 ||| place fj 5 ||| place cd 0
  | .fcmpSneS cd fj fk => 0x0C188000#32 ||| place fk 10 ||| place fj 5 ||| place cd 0
  | .fcmpSorS cd fj fk => 0x0C1A8000#32 ||| place fk 10 ||| place fj 5 ||| place cd 0
  | .fcmpSuneS cd fj fk => 0x0C1C8000#32 ||| place fk 10 ||| place fj 5 ||| place cd 0
  | .fcmpCafD cd fj fk => 0x0C200000#32 ||| place fk 10 ||| place fj 5 ||| place cd 0
  | .fcmpCunD cd fj fk => 0x0C240000#32 ||| place fk 10 ||| place fj 5 ||| place cd 0
  | .fcmpCeqD cd fj fk => 0x0C220000#32 ||| place fk 10 ||| place fj 5 ||| place cd 0
  | .fcmpCueqD cd fj fk => 0x0C260000#32 ||| place fk 10 ||| place fj 5 ||| place cd 0
  | .fcmpCltD cd fj fk => 0x0C210000#32 ||| place fk 10 ||| place fj 5 ||| place cd 0
  | .fcmpCultD cd fj fk => 0x0C250000#32 ||| place fk 10 ||| place fj 5 ||| place cd 0
  | .fcmpCleD cd fj fk => 0x0C230000#32 ||| place fk 10 ||| place fj 5 ||| place cd 0
  | .fcmpCuleD cd fj fk => 0x0C270000#32 ||| place fk 10 ||| place fj 5 ||| place cd 0
  | .fcmpCneD cd fj fk => 0x0C280000#32 ||| place fk 10 ||| place fj 5 ||| place cd 0
  | .fcmpCorD cd fj fk => 0x0C2A0000#32 ||| place fk 10 ||| place fj 5 ||| place cd 0
  | .fcmpCuneD cd fj fk => 0x0C2C0000#32 ||| place fk 10 ||| place fj 5 ||| place cd 0
  | .fcmpSafD cd fj fk => 0x0C208000#32 ||| place fk 10 ||| place fj 5 ||| place cd 0
  | .fcmpSunD cd fj fk => 0x0C248000#32 ||| place fk 10 ||| place fj 5 ||| place cd 0
  | .fcmpSeqD cd fj fk => 0x0C228000#32 ||| place fk 10 ||| place fj 5 ||| place cd 0
  | .fcmpSueqD cd fj fk => 0x0C268000#32 ||| place fk 10 ||| place fj 5 ||| place cd 0
  | .fcmpSltD cd fj fk => 0x0C218000#32 ||| place fk 10 ||| place fj 5 ||| place cd 0
  | .fcmpSultD cd fj fk => 0x0C258000#32 ||| place fk 10 ||| place fj 5 ||| place cd 0
  | .fcmpSleD cd fj fk => 0x0C238000#32 ||| place fk 10 ||| place fj 5 ||| place cd 0
  | .fcmpSuleD cd fj fk => 0x0C278000#32 ||| place fk 10 ||| place fj 5 ||| place cd 0
  | .fcmpSneD cd fj fk => 0x0C288000#32 ||| place fk 10 ||| place fj 5 ||| place cd 0
  | .fcmpSorD cd fj fk => 0x0C2A8000#32 ||| place fk 10 ||| place fj 5 ||| place cd 0
  | .fcmpSuneD cd fj fk => 0x0C2C8000#32 ||| place fk 10 ||| place fj 5 ||| place cd 0
  | .fcvtSD fd fj => 0x01191800#32 ||| place fj 5 ||| place fd 0
  | .fcvtDS fd fj => 0x01192400#32 ||| place fj 5 ||| place fd 0
  | .ffintSW fd fj => 0x011D1000#32 ||| place fj 5 ||| place fd 0
  | .ffintDW fd fj => 0x011D2000#32 ||| place fj 5 ||| place fd 0
  | .ftintWS fd fj => 0x011B0400#32 ||| place fj 5 ||| place fd 0
  | .ftintWD fd fj => 0x011B0800#32 ||| place fj 5 ||| place fd 0
  | .ftintrmWS fd fj => 0x011A0400#32 ||| place fj 5 ||| place fd 0
  | .ftintrmWD fd fj => 0x011A0800#32 ||| place fj 5 ||| place fd 0
  | .ftintrpWS fd fj => 0x011A4400#32 ||| place fj 5 ||| place fd 0
  | .ftintrpWD fd fj => 0x011A4800#32 ||| place fj 5 ||| place fd 0
  | .ftintrzWS fd fj => 0x011A8400#32 ||| place fj 5 ||| place fd 0
  | .ftintrzWD fd fj => 0x011A8800#32 ||| place fj 5 ||| place fd 0
  | .ftintrneWS fd fj => 0x011AC400#32 ||| place fj 5 ||| place fd 0
  | .ftintrneWD fd fj => 0x011AC800#32 ||| place fj 5 ||| place fd 0
  | .fmovS fd fj => 0x01149400#32 ||| place fj 5 ||| place fd 0
  | .fmovD fd fj => 0x01149800#32 ||| place fj 5 ||| place fd 0
  | .fsel fd fj fk ca => 0x0D000000#32 ||| place ca 15 ||| place fk 10 ||| place fj 5 ||| place fd 0
  | .movgr2frW fd rj => 0x0114A400#32 ||| place rj 5 ||| place fd 0
  | .movgr2frhW fd rj => 0x0114A800#32 ||| place rj 5 ||| place fd 0
  | .movfr2grS rd fj => 0x0114B400#32 ||| place fj 5 ||| place rd 0
  | .movfrh2grS rd fj => 0x0114B800#32 ||| place fj 5 ||| place rd 0
  | .movgr2fcsr fcsr rj => 0x0114C000#32 ||| place rj 5 ||| place fcsr 0
  | .movfcsr2gr rd fcsr => 0x0114C800#32 ||| place fcsr 5 ||| place rd 0
  | .movfr2cf cd fj => 0x0114D000#32 ||| place fj 5 ||| place cd 0
  | .movcf2fr fd cj => 0x0114D400#32 ||| place cj 5 ||| place fd 0
  | .movgr2cf cd rj => 0x0114D800#32 ||| place rj 5 ||| place cd 0
  | .movcf2gr rd cj => 0x0114DC00#32 ||| place cj 5 ||| place rd 0
  | .bceqz cj offs21 => 0x48000000#32 ||| place (offs21.extractLsb' 0 16) 10 ||| place (offs21.extractLsb' 16 5) 0 ||| place cj 5
  | .bcnez cj offs21 => 0x48000100#32 ||| place (offs21.extractLsb' 0 16) 10 ||| place (offs21.extractLsb' 16 5) 0 ||| place cj 5
  | .fldS fd rj si12 => 0x2B000000#32 ||| place si12 10 ||| place rj 5 ||| place fd 0
  | .fldD fd rj si12 => 0x2B400000#32 ||| place si12 10 ||| place rj 5 ||| place fd 0
  | .fstS fd rj si12 => 0x2B800000#32 ||| place si12 10 ||| place rj 5 ||| place fd 0
  | .fstD fd rj si12 => 0x2BC00000#32 ||| place si12 10 ||| place rj 5 ||| place fd 0
  | .csrrd rd csr => 0x04000000#32 ||| place csr 10 ||| place rd 0
  | .csrwr rd csr => 0x04000020#32 ||| place csr 10 ||| place rd 0
  | .csrxchg rd rj csr => 0x04000000#32 ||| place csr 10 ||| place rj 5 ||| place rd 0
  | .cacop code rj si12 => 0x06000000#32 ||| place si12 10 ||| place rj 5 ||| place code 0
  | .tlbsrch => 0x06482800#32
  | .tlbrd => 0x06482C00#32
  | .tlbwr => 0x06483000#32
  | .tlbfill => 0x06483400#32
  | .invtlb op rj rk => 0x06498000#32 ||| place rk 10 ||| place rj 5 ||| place op 0
  | .ertn => 0x06483800#32
  | .idle level => 0x06488000#32 ||| place level 0

end Sys2Proof
end

