-- ==== Sys2Proof/Machine/State.lean ====
section
/-! DEFINITION. Everything the spec gives the machine, as plain data, and the machine right after reset.

The fields are those of `spec/10_state.md` (R20 to R79), with the hidden timer bit of `spec/60_exceptions.md` R500 and
the bytes a fetch may still see (`spec/20_memory.md` R102). `agenda` and `draws` are the model's own. -/

namespace Sys2Proof.Machine

/-- What an address is used for (`spec/20_memory.md` R81, R82, R88). -/
inductive Access where
  | fetch | load | store
  deriving DecidableEq, Repr

/-- The exceptions of `spec/60_exceptions.md` R460, those with a faulting virtual address carrying it. -/
inductive Trap where
  /-- INT, an interrupt (R481). -/
  | int
  /-- PIL, page invalid for load. -/
  | pil (va : Word)
  /-- PIS, page invalid for store. -/
  | pis (va : Word)
  /-- PIF, page invalid for fetch. -/
  | pif (va : Word)
  /-- PME, page modification. -/
  | pme (va : Word)
  /-- PPI, page privilege illegal. -/
  | ppi (va : Word)
  /-- ADEF, address error on fetch. -/
  | adef (va : Word)
  /-- ADEM, address error on memory access. -/
  | adem (va : Word)
  /-- ALE, address alignment. -/
  | ale (va : Word)
  /-- SYS, system call. -/
  | sys
  /-- BRK, breakpoint. -/
  | brk
  /-- INE, instruction not existing. -/
  | ine
  /-- IPE, instruction privilege error. -/
  | ipe
  /-- FPD, floating point disabled. -/
  | fpd
  /-- FPE, floating-point error. -/
  | fpe
  /-- TLBR, TLB refill. -/
  | tlbr (va : Word)
  deriving DecidableEq, Repr

/-- A floating-point register: bits 63:32 and bits 31:0 (R30). Two halves, since 32-bit writes leave the high half
unspecified (R31). -/
structure FReg where
  hi : Word
  lo : Word
  deriving DecidableEq, Repr

/-- One page of a TLB entry (R55), with `PALEN - 12` bits of physical page number. -/
structure TlbPage where
  v : Bool
  d : Bool
  mat : BitVec 2
  plv : BitVec 2
  ppn : BitVec (Config.palen - 12)
  deriving DecidableEq, Repr

/-- One TLB entry: a pair of pages (R55). -/
structure TlbEntry where
  e : Bool
  asid : BitVec 10
  g : Bool
  ps : BitVec 6
  vppn : BitVec 19
  page0 : TlbPage
  page1 : TlbPage
  deriving DecidableEq, Repr

/-- The stored control and status registers (R45, R60 to R79). PGD, CPUID and TICLR store nothing; of LLBCTL only KLO
is stored here (ROLLB is `State.llbit`). -/
structure Csrs where
  crmd : Word
  prmd : Word
  euen : Word
  ecfg : Word
  estat : Word
  era : Word
  badv : Word
  eentry : Word
  tlbidx : Word
  tlbehi : Word
  tlbelo0 : Word
  tlbelo1 : Word
  /-- The ASID field; ASIDBITS is constant (R71). -/
  asid : BitVec 10
  pgdl : Word
  pgdh : Word
  save0 : Word
  save1 : Word
  save2 : Word
  save3 : Word
  tid : Word
  tcfg : Word
  tval : Word
  klo : Bool
  tlbrentry : Word
  ctag : Word
  dmw0 : Word
  dmw1 : Word
  deriving DecidableEq, Repr

/-- A value that a fetch of a physical byte may still return although the byte has been overwritten (R102). `own` is
true when this core has stored over the byte since, so that this core's IBAR ends it (R276); false while only other agents
have (log 29). -/
structure StaleByte where
  addr : Nat
  old : Byte
  own : Bool
  deriving DecidableEq, Repr

/-- The steps of the agents (`spec/00_scope.md` R7): the core, the counter, other cores and coherent masters, the
interrupt inputs, the loss of a reservation (R272) and reset (R533). -/
inductive AgentMove where
  /-- One core step. -/
  | core
  /-- One tick of the Stable Counter and the timer. -/
  | counterTick
  /-- A store completed by another core or a coherent I/O master, at a physical address. -/
  | externalStore (paddr : PAddr) (bytes : List Byte)
  /-- Hardware interrupt line HWI`n` takes a level. -/
  | interruptLine (n : BitVec 3) (level : Bool)
  /-- The inter-processor interrupt line takes a level. -/
  | ipiLine (level : Bool)
  /-- The reservation is lost for a reason of the implementation. -/
  | spuriousClear
  /-- Reset. -/
  | reset
  deriving DecidableEq, Repr

/-- Physical memory: the bytes that differ from what an unlisted address reads as, addresses strictly rising (R80). -/
abbrev Memory := List Host.Cell

/-- The reasons a step stops with a fault. -/
inductive Fault where
  /-- Raised by the move of another agent that stores past the last physical address (`spec/00_scope.md` R6, PALEN). Safe:
  there is no such byte. No instruction raises it. -/
  | outsideAddressSpace
  deriving DecidableEq, Repr

/-- The reasons the model refuses a step. -/
inductive Refusal where
  /-- The instruction has no meaning yet; answered by `exec` alone. Safe. -/
  | notModelled (mnemonic : String)
  /-- A fetch, load or store at a physical address where the memory map has nothing (`spec/20_memory.md` R106,
  `spec/93_implementation_defined.md` U25: refuse). Safe. The default memory map of `Config` has no such address. -/
  | absentAddress
  /-- A fetch, load or store in a device region, whose behaviour the spec does not give (R107). Safe. The default
  memory map has no device. -/
  | deviceAccess
  /-- A store to a ROM region, whose effect the spec does not give (R106). Safe. The default memory map has no ROM. -/
  | romStore
  /-- A translation while CRMD has DA = PG, which the spec calls undefined (R60, U14). Safe. -/
  | translationMode
  /-- A TLB lookup that more than one entry matches, which the spec calls undefined (R96, U13). Safe. -/
  | tlbMultipleHit
  /-- TLBRD or TLBWR with an index beyond the TLB, which the spec calls undefined (R438, R439, U5). Safe. With the numbers of
  `Config` every index names an entry. -/
  | tlbIndexRange
  deriving DecidableEq, Repr

/-- The machine (`INVENTORY.md`, State). -/
structure State where
  /-- Program counter (R25). -/
  pc : Word
  /-- General registers x[0] to x[31] (R20); x[0] reads 0 whatever is held here (R21). -/
  gpr : Vector Word 32
  /-- Floating-point registers f[0] to f[31] (R30). -/
  fpr : Vector FReg 32
  /-- Condition flags c[0] to c[7] (R33). -/
  cfr : Vector Bool 8
  /-- FCSR0 (R36). -/
  fcsr : Word
  /-- Control and status registers (R45). -/
  csr : Csrs
  /-- LLbit (R50). -/
  llbit : Bool
  /-- LLaddr, a physical address (R51). -/
  lladdr : PAddr
  /-- Stable Counter (R52). -/
  counter : Dword
  /-- The hidden bit `timer_running` (R500). -/
  timerRunning : Bool
  /-- The wait state of IDLE (R54). -/
  idle : Bool
  /-- The TLB (R55, R56). -/
  tlb : Vector TlbEntry Config.tlbEntries
  /-- Physical memory (R80). -/
  mem : Memory
  /-- Bytes a fetch may still return (R102). -/
  stale : List StaleByte
  /-- The model's own: the moves of the agents still to be made, the next first (log 15). -/
  agenda : List AgentMove
  /-- The model's own: how many free values have been drawn (log 14). -/
  draws : Nat
  deriving DecidableEq, Repr

/-- A TLB page with every field 0. -/
def TlbPage.zero : TlbPage := { v := false, d := false, mat := 0#2, plv := 0#2, ppn := 0#_ }

/-- A TLB entry with every field 0: `E = 0`, an invalid entry (R444). -/
def TlbEntry.invalid : TlbEntry :=
  { e := false, asid := 0#10, g := false, ps := 0#6, vppn := 0#19, page0 := .zero, page1 := .zero }

/-- The CSRs right after reset (`spec/70_reset_and_hazards.md` R531): CRMD is 8, EUEN, ECFG, IS[1:0], IS[11], TCFG.En,
KLO and the window enables are 0 by the spec; the fields R531 leaves unspecified are 0. DESIGN CHOICE, unsafe, log 10,
log 13. -/
def Csrs.reset : Csrs :=
  { crmd := 8#32, prmd := 0#32, euen := 0#32, ecfg := 0#32, estat := 0#32, era := 0#32, badv := 0#32,
    eentry := 0#32, tlbidx := 0#32, tlbehi := 0#32, tlbelo0 := 0#32, tlbelo1 := 0#32, asid := 0#10,
    pgdl := 0#32, pgdh := 0#32, save0 := 0#32, save1 := 0#32, save2 := 0#32, save3 := 0#32, tid := 0#32,
    tcfg := 0#32, tval := 0#32, klo := false, tlbrentry := 0#32, ctag := 0#32, dmw0 := 0#32, dmw1 := 0#32 }

/-- The machine right after reset (R531). What R531 leaves unspecified (general, floating-point and flag registers,
FCSR0, LLbit, LLaddr, the TLB) is 0. DESIGN CHOICE, unsafe, log 9, log 11, log 12. -/
def State.reset : State :=
  { pc := Config.resetPc
    gpr := Vector.replicate 32 0#32
    fpr := Vector.replicate 32 { hi := 0#32, lo := 0#32 }
    cfr := Vector.replicate 8 false
    fcsr := 0#32
    csr := Csrs.reset
    llbit := false
    lladdr := 0#_
    counter := 0#64
    timerRunning := false
    idle := false
    tlb := Vector.replicate Config.tlbEntries TlbEntry.invalid
    mem := []
    stale := []
    agenda := []
    draws := 0 }

end Sys2Proof.Machine
end

