-- ==== Sys2Proof/Machine/Csr.lean ====
section
/-! DEFINITION. Control and status registers: their numbers, fields, reads and writes.

`spec/10_state.md` R42, R45, R46, R60 to R79; `spec/49_privileged.md` R434. A read gives reserved fields as 0; a write
changes the writable fields and triggers the write-1 actions. The registers are those of R45's table, where `CSR_SET` has
their number (log 45). -/

namespace Sys2Proof.Machine

/-- The CSRs of R45. -/
inductive CsrName where
  | crmd | prmd | euen | ecfg | estat | era | badv | eentry | tlbidx | tlbehi | tlbelo0 | tlbelo1 | asid
  | pgdl | pgdh | pgd | cpuid | save0 | save1 | save2 | save3 | tid | tcfg | tval | ticlr | llbctl | tlbrentry
  | ctag | dmw0 | dmw1
  deriving DecidableEq, Repr

/-- The number of a CSR (R45). -/
def CsrName.number : CsrName → BitVec 14
  | .crmd => 0x0 | .prmd => 0x1 | .euen => 0x2 | .ecfg => 0x4 | .estat => 0x5 | .era => 0x6 | .badv => 0x7
  | .eentry => 0xC | .tlbidx => 0x10 | .tlbehi => 0x11 | .tlbelo0 => 0x12 | .tlbelo1 => 0x13 | .asid => 0x18
  | .pgdl => 0x19 | .pgdh => 0x1A | .pgd => 0x1B | .cpuid => 0x20 | .save0 => 0x30 | .save1 => 0x31
  | .save2 => 0x32 | .save3 => 0x33 | .tid => 0x40 | .tcfg => 0x41 | .tval => 0x42 | .ticlr => 0x44
  | .llbctl => 0x60 | .tlbrentry => 0x88 | .ctag => 0x98 | .dmw0 => 0x180 | .dmw1 => 0x181

/-- The CSRs in the order of R45. -/
def CsrName.all : List CsrName :=
  [.crmd, .prmd, .euen, .ecfg, .estat, .era, .badv, .eentry, .tlbidx, .tlbehi, .tlbelo0, .tlbelo1, .asid, .pgdl,
   .pgdh, .pgd, .cpuid, .save0, .save1, .save2, .save3, .tid, .tcfg, .tval, .ticlr, .llbctl, .tlbrentry, .ctag,
   .dmw0, .dmw1]

/-- The CSR with a number; none when the number is not in `CSR_SET` (R42). -/
def csrNamed (n : BitVec 14) : Option CsrName :=
  if Config.csrSet.contains n then CsrName.all.find? (fun c => c.number == n) else none

/-- `CRMD.PLV` (R60). -/
def Csrs.plv (c : Csrs) : BitVec 2 := field c.crmd 0 2
/-- `CRMD.IE` (R60). -/
def Csrs.ie (c : Csrs) : Bool := bit c.crmd 2
/-- `CRMD.DA` (R60). -/
def Csrs.da (c : Csrs) : Bool := bit c.crmd 3
/-- `CRMD.PG` (R60). -/
def Csrs.pg (c : Csrs) : Bool := bit c.crmd 4
/-- `CRMD.DATF` (R60). -/
def Csrs.datf (c : Csrs) : BitVec 2 := field c.crmd 5 2
/-- `CRMD.DATM` (R60). -/
def Csrs.datm (c : Csrs) : BitVec 2 := field c.crmd 7 2
/-- `EUEN.FPE` (R62). -/
def Csrs.fpe (c : Csrs) : Bool := bit c.euen 0
/-- `ESTAT.IS`, 13 bits (R64, R480). -/
def Csrs.pending (c : Csrs) : BitVec 13 := field c.estat 0 13
/-- `ECFG.LIE`, 13 bits (R63). -/
def Csrs.lie (c : Csrs) : BitVec 13 := field c.ecfg 0 13
/-- `ESTAT.Ecode` (R64). -/
def Csrs.ecode (c : Csrs) : BitVec 6 := field c.estat 16 6
/-- `TLBIDX.Index` (R68). -/
def Csrs.index (c : Csrs) : BitVec Config.tlbIndexBits := field c.tlbidx 0 Config.tlbIndexBits
/-- `TLBIDX.PS` (R68). -/
def Csrs.ps (c : Csrs) : BitVec 6 := field c.tlbidx 24 6
/-- `TLBIDX.NE` (R68). -/
def Csrs.ne (c : Csrs) : Bool := bit c.tlbidx 31
/-- `TLBEHI.VPPN` (R69). -/
def Csrs.vppn (c : Csrs) : BitVec 19 := field c.tlbehi 13 19

/-- A pending interrupt that is locally enabled: `ESTAT.IS & ECFG.LIE` is not 0 (R443, R481). -/
def Csrs.interruptPending (c : Csrs) : Bool := c.pending &&& c.lie != 0#13

/-- `ESTAT` with interrupt-status bit `i` made `b` (R64). -/
def Csrs.setPending (c : Csrs) (i : Nat) (b : Bool) : Csrs := { c with estat := setBit c.estat i b }

/-- The writable bits of CRMD (R60). -/
def crmdWritable : Word := ones 0 9
/-- The writable bits of PRMD (R61). -/
def prmdWritable : Word := ones 0 3
/-- The writable bits of EUEN (R62). -/
def euenWritable : Word := ones 0 1
/-- The writable bits of ECFG: LIE, without bit 10 (R63). -/
def ecfgWritable : Word := ones 0 10 ||| ones 11 2
/-- The writable bits of ESTAT: IS[1:0] (R64). -/
def estatWritable : Word := ones 0 2
/-- All defined bits of ESTAT (R64). -/
def estatDefined : Word := ones 0 10 ||| ones 11 2 ||| ones 16 15
/-- The writable bits of EENTRY and TLBRENTRY (R67, R78). -/
def entryWritable : Word := ones 6 26
/-- The writable bits of TLBIDX: Index, PS, NE (R68). -/
def tlbidxWritable : Word := ones 0 Config.tlbIndexBits ||| ones 24 6 ||| ones 31 1
/-- The writable bits of TLBEHI: VPPN (R69). -/
def tlbehiWritable : Word := ones 13 19
/-- The writable bits of TLBELO0 and TLBELO1: V, D, PLV, MAT, G, PPN (R70). -/
def tlbeloWritable : Word := ones 0 7 ||| ones 8 (Config.palen - 12)
/-- The writable bits of PGDL and PGDH: Base (R72). -/
def pgdWritable : Word := ones 12 20
/-- The writable bits of DMW0 and DMW1: PLV0, PLV3, MAT, PSEG, VSEG (R79). -/
def dmwWritable : Word := ones 0 1 ||| ones 3 3 ||| ones 25 3 ||| ones 29 3

/-- `{InitVal, 2'b00}` of a TCFG value (R500, timer width 32: log 6). -/
def timerInitial (tcfg : Word) : Word := tcfg &&& ~~~3#32

/-- The value software reads from a CSR (R46, R60 to R79). -/
def State.readCsrNamed (s : State) : CsrName → Word
  | .crmd => s.csr.crmd
  | .prmd => s.csr.prmd
  | .euen => s.csr.euen
  | .ecfg => s.csr.ecfg
  | .estat => s.csr.estat
  | .era => s.csr.era
  | .badv => s.csr.badv
  | .eentry => s.csr.eentry
  | .tlbidx => s.csr.tlbidx
  | .tlbehi => s.csr.tlbehi
  | .tlbelo0 => s.csr.tlbelo0
  | .tlbelo1 => s.csr.tlbelo1
  | .asid => zext32 s.csr.asid ||| place 10#8 16
  | .pgdl => s.csr.pgdl
  | .pgdh => s.csr.pgdh
  | .pgd => if bit s.csr.badv 31 then s.csr.pgdh else s.csr.pgdl
  | .cpuid => zext32 (BitVec.ofNat 9 Config.coreId.val)
  | .save0 => s.csr.save0
  | .save1 => s.csr.save1
  | .save2 => s.csr.save2
  | .save3 => s.csr.save3
  | .tid => s.csr.tid
  | .tcfg => s.csr.tcfg
  | .tval => s.csr.tval
  | .ticlr => 0#32
  | .llbctl => place (BitVec.ofBool s.llbit) 0 ||| place (BitVec.ofBool s.csr.klo) 2
  | .tlbrentry => s.csr.tlbrentry
  | .ctag => s.csr.ctag
  | .dmw0 => s.csr.dmw0
  | .dmw1 => s.csr.dmw1

/-- `csr[n]` read: 0 for a number the architecture does not define (R42, R434). -/
def State.readCsr (s : State) (n : BitVec 14) : Word :=
  match csrNamed n with
  | some c => s.readCsrNamed c
  | none => 0#32

/-- A software write of TCFG: with `En = 1` it loads the timer and starts it, with `En = 0` it stops it (R76, R500). -/
def State.writeTcfg (s : State) (v : Word) : State :=
  if bit v 0 then { s with csr := { s.csr with tcfg := v, tval := timerInitial v }, timerRunning := true }
  else { s with csr := { s.csr with tcfg := v }, timerRunning := false }

/-- A software write of LLBCTL: KLO is stored, a 1 in WCLLB clears LLbit, ROLLB is read-only (R77). -/
def State.writeLlbctl (s : State) (v : Word) : State :=
  { s with csr := { s.csr with klo := bit v 2 }, llbit := s.llbit && !bit v 1 }

/-- The effect of a software write on a CSR: only its writable fields change, and write-1 fields act (R46, R60 to R79). -/
def State.writeCsrNamed (s : State) (v : Word) : CsrName → State
  | .crmd => { s with csr := { s.csr with crmd := v &&& crmdWritable } }
  | .prmd => { s with csr := { s.csr with prmd := v &&& prmdWritable } }
  | .euen => { s with csr := { s.csr with euen := v &&& euenWritable } }
  | .ecfg => { s with csr := { s.csr with ecfg := v &&& ecfgWritable } }
  | .estat => { s with csr := { s.csr with
      estat := (s.csr.estat &&& ~~~estatWritable) ||| (v &&& estatWritable) } }
  | .era => { s with csr := { s.csr with era := v } }
  | .badv => { s with csr := { s.csr with badv := v } }
  | .eentry => { s with csr := { s.csr with eentry := v &&& entryWritable } }
  | .tlbidx => { s with csr := { s.csr with tlbidx := v &&& tlbidxWritable } }
  | .tlbehi => { s with csr := { s.csr with tlbehi := v &&& tlbehiWritable } }
  | .tlbelo0 => { s with csr := { s.csr with tlbelo0 := v &&& tlbeloWritable } }
  | .tlbelo1 => { s with csr := { s.csr with tlbelo1 := v &&& tlbeloWritable } }
  | .asid => { s with csr := { s.csr with asid := field v 0 10 } }
  | .pgdl => { s with csr := { s.csr with pgdl := v &&& pgdWritable } }
  | .pgdh => { s with csr := { s.csr with pgdh := v &&& pgdWritable } }
  | .pgd => s
  | .cpuid => s
  | .save0 => { s with csr := { s.csr with save0 := v } }
  | .save1 => { s with csr := { s.csr with save1 := v } }
  | .save2 => { s with csr := { s.csr with save2 := v } }
  | .save3 => { s with csr := { s.csr with save3 := v } }
  | .tid => { s with csr := { s.csr with tid := v } }
  | .tcfg => s.writeTcfg v
  | .tval => s
  | .ticlr => if bit v 0 then { s with csr := s.csr.setPending 11 false } else s
  | .llbctl => s.writeLlbctl v
  | .tlbrentry => { s with csr := { s.csr with tlbrentry := v &&& entryWritable } }
  | .ctag => { s with csr := { s.csr with
      ctag := (s.csr.ctag &&& ~~~Config.ctagWritable) ||| (v &&& Config.ctagWritable) } }
  | .dmw0 => { s with csr := { s.csr with dmw0 := v &&& dmwWritable } }
  | .dmw1 => { s with csr := { s.csr with dmw1 := v &&& dmwWritable } }

/-- `csr[n] <- v`: no change for a number the architecture does not define (R42, R434). -/
def State.writeCsr (s : State) (n : BitVec 14) (v : Word) : State :=
  match csrNamed n with
  | some c => s.writeCsrNamed v c
  | none => s

end Sys2Proof.Machine
end

