-- ==== Sys2Proof/Machine/Memory.lean ====
section
/-! DEFINITION. Physical memory: reading and writing bytes, little-endian values, and the memory map.

`spec/20_memory.md` R83, R85 (byte order), R106 (the map). An address is a `Nat`; what a list of cells does not mention
reads as `Memory.unlisted`. -/

namespace Sys2Proof.Machine

/-- What a byte that nothing has written reads as. DESIGN CHOICE, unsafe, log 8: RAM content after power-on is
unspecified (R531). -/
def Memory.unlisted : Byte := 0#8

/-- The byte at a physical address. -/
def Memory.read : Memory → Nat → Byte
  | [], _ => Memory.unlisted
  | c :: m, x => if x = c.1 then c.2 else Memory.read m x

/-- Memory with no entry for `x`. -/
def Memory.erase (m : Memory) (x : Nat) : Memory := m.filter (fun c => c.1 != x)

/-- Memory with an entry for `x` put before the first larger address. -/
def Memory.insert (x : Nat) (v : Byte) : Memory → Memory
  | [] => [(x, v)]
  | c :: m => if x < c.1 then (x, v) :: c :: m else c :: Memory.insert x v m

/-- Memory after the byte `v` is written at `x`; writing what an unlisted address reads as leaves no entry. -/
def Memory.write (m : Memory) (x : Nat) (v : Byte) : Memory :=
  if v = Memory.unlisted then m.erase x else Memory.insert x v (m.erase x)

/-- The canonical form: addresses strictly rising, no entry equal to what an unlisted address reads as. -/
def Memory.wf : Memory → Bool
  | [] => true
  | c :: m => c.2 != Memory.unlisted && m.all (fun d => c.1 < d.1) && Memory.wf m

/-- `MemoryLoad(a, n)`: the `n` bytes from `a` up as a number, the byte at `a` least significant (R83, R85). -/
def Memory.load (m : Memory) (a : Nat) : Nat → Nat
  | 0 => 0
  | n + 1 => (m.read a).toNat + 256 * Memory.load m (a + 1) n

/-- `MemoryStore(v, a, n)`: the low `n` bytes of `v` written from `a` up, least significant first (R83, R85). -/
def Memory.store (m : Memory) (a : Nat) (n : Nat) (v : Nat) : Memory :=
  match n with
  | 0 => m
  | n + 1 => Memory.store (m.write a (BitVec.ofNat 8 v)) (a + 1) n (v / 256)

/-- The bytes written one after another from `a` up. -/
def Memory.writeBytes (m : Memory) (a : Nat) : List Byte → Memory
  | [] => m
  | b :: bs => Memory.writeBytes (m.write a b) (a + 1) bs

/-- What the memory map has at a physical address (R106). -/
def regionKindAt (a : Nat) : Option RegionKind :=
  (Config.memoryMap.find? (fun r => decide (r.base ≤ a) && decide (a < r.base + r.size))).map (fun r => r.kind)

/-- The values a fetch may still return for the `n` overwritten bytes from `a` up: what they held before (R102). -/
def overwritten (m : Memory) (a n : Nat) (own : Bool) : List StaleByte :=
  (List.range n).map (fun i => { addr := a + i, old := m.read (a + i), own := own })

/-- This core stores over the `n` bytes from `a` up: its next IBAR ends every older value of them (R276). -/
def ownedBy (a n : Nat) (stale : List StaleByte) : List StaleByte :=
  stale.map (fun e => if a ≤ e.addr && e.addr < a + n then { e with own := true } else e)

/-- The byte a fetch of physical address `a` returns: the byte in memory, or one it held before when it was overwritten
since the last IBAR (R102, log 28). -/
def fetchByte (m : Memory) (stale : List StaleByte) (draw a : Nat) : Byte :=
  match stale.filter (fun e => e.addr == a) with
  | [] => m.read a
  | e :: es =>
    ((e :: es).map (fun x => x.old)).getD (Config.staleFetch draw a % ((e :: es).length + 1)) (m.read a)

end Sys2Proof.Machine
end

