-- ==== Sys2Proof/Machine/Tlb.lean ====
section
/-! DEFINITION. Address translation: windows, TLB lookup, page checks, and TLB entries from and to the CSRs.

`spec/20_memory.md` R89 to R96; `spec/49_privileged.md` R437 to R441. -/

namespace Sys2Proof.Machine

/-- The outcome of a translation: a physical address with its memory access type, an exception, or a refusal. -/
inductive Translated where
  | mapped (pa : PAddr) (mat : BitVec 2)
  | trapped (e : Trap)
  | refused (r : Refusal)
  deriving DecidableEq, Repr

/-- The page sizes the architecture requires: 2^12 and 2^21 bytes (R55, R439). -/
def requiredPageSize (ps : BitVec 6) : Bool := ps == 12#6 || ps == 21#6

/-- `e.VPPN[18 : e.PS-12] = vppn[18 : e.PS-12]` (R95, R441); for other page sizes the implementation's (log 38). -/
def TlbEntry.matchesVa (e : TlbEntry) (vppn : BitVec 19) : Bool :=
  if requiredPageSize e.ps then e.vppn >>> (e.ps.toNat - 12) == vppn >>> (e.ps.toNat - 12)
  else Config.otherPageMatch e.ps e.vppn vppn

/-- The entry exists, is global or of the address space, and covers the page pair (R95). -/
def TlbEntry.hit (e : TlbEntry) (asid : BitVec 10) (vppn : BitVec 19) : Bool :=
  e.e && (e.g || e.asid == asid) && e.matchesVa vppn

/-- The indices of the entries that match, rising (R95, R437). -/
def State.tlbHits (s : State) (vppn : BitVec 19) : List (Fin Config.tlbEntries) :=
  (List.finRange Config.tlbEntries).filter (fun i => (s.tlb.get i).hit s.csr.asid vppn)

/-- The page of the pair that an address selects: `va[e.PS]` (R95). -/
def TlbEntry.page (e : TlbEntry) (va : Word) : TlbPage :=
  if (if requiredPageSize e.ps then bit va e.ps.toNat else Config.otherPageOdd e.ps va) then e.page1 else e.page0

/-- A physical address with its low `n` bits replaced by those of the virtual address (R95). -/
def withOffset (pa : PAddr) (va : Word) (n : Nat) : PAddr :=
  pa &&& ~~~((ones 0 n).setWidth Config.palen) ||| (va &&& ones 0 n).setWidth Config.palen

/-- `{PPN[PALEN-13 : PS-12], va[PS-1 : 0]}` (R95). For page sizes that R439 leaves to the implementation the page frame is
free, and bits 11:0 are those of the virtual address, since PPN names frames of 2^12 bytes (R55). DESIGN CHOICE, unsafe, log
38: so an aligned access stays aligned and inside the address space. -/
def pageAddress (ps : BitVec 6) (ppn : BitVec (Config.palen - 12)) (va : Word) : PAddr :=
  if requiredPageSize ps then withOffset ((ppn ++ 0#12).setWidth Config.palen) va ps.toNat
  else withOffset (Config.otherPageAddress ps ppn va) va 12

/-- The page-invalid exception of an access (R95). -/
def pageInvalid (kind : Access) (va : Word) : Trap :=
  match kind with
  | .fetch => .pif va
  | .load => .pil va
  | .store => .pis va

/-- The address-error exception of an access (R89). -/
def addressError (kind : Access) (va : Word) : Trap :=
  match kind with
  | .fetch => .adef va
  | .load | .store => .adem va

/-- The checks on the page of a matching entry, in the order of R95. -/
def TlbEntry.translate (e : TlbEntry) (kind : Access) (plv : BitVec 2) (va : Word) : Translated :=
  if (e.page va).v = false then .trapped (pageInvalid kind va)
  else if (e.page va).plv < plv then .trapped (.ppi va)
  else if kind = .store ∧ (e.page va).d = false then .trapped (.pme va)
  else .mapped (pageAddress e.ps (e.page va).ppn va) (e.page va).mat

/-- Mapped mode, step 2: the TLB (R93, R95, R96). -/
def State.translateTlb (s : State) (kind : Access) (va : Word) : Translated :=
  match s.tlbHits (field va 13 19) with
  | [] => .trapped (.tlbr va)
  | [i] => (s.tlb.get i).translate kind s.csr.plv va
  | _ :: _ :: _ => .refused .tlbMultipleHit

/-- A direct-mapped window matches: `va[31:29] = VSEG` and the window is enabled at the privilege level (R92, R94).
PLV 1 and 2 use the PLV3 enable (U26, log 35). -/
def windowHit (dmw : Word) (plv : BitVec 2) (va : Word) : Bool :=
  field va 29 3 == field dmw 29 3 && (if plv = 0#2 then bit dmw 0 else bit dmw 3)

/-- `{DMW.PSEG, va[28:0]}` (R92). -/
def windowAddress (dmw : Word) (va : Word) : PAddr := (field dmw 25 3 ++ field va 0 29 : Word).setWidth Config.palen

/-- Mapped mode: DMW0, then DMW1, then the check of R89, then the TLB (R89, R92, R93). -/
def State.translateMapped (s : State) (kind : Access) (va : Word) : Translated :=
  if windowHit s.csr.dmw0 s.csr.plv va then .mapped (windowAddress s.csr.dmw0 va) (field s.csr.dmw0 4 2)
  else if windowHit s.csr.dmw1 s.csr.plv va then .mapped (windowAddress s.csr.dmw1 va) (field s.csr.dmw1 4 2)
  else if s.csr.plv ≠ 0#2 ∧ bit va 31 = true then .trapped (addressError kind va)
  else s.translateTlb kind va

/-- The memory access type of direct mode (R91). -/
def Csrs.directMat (c : Csrs) (kind : Access) : BitVec 2 :=
  match kind with
  | .fetch => c.datf
  | .load | .store => c.datm

/-- `AddressComplianceCheck` and `AddressTranslation` (R89 to R96): direct mode with DA = 1 and PG = 0, mapped mode with
DA = 0 and PG = 1; DA = PG is undefined (U14, log 36). -/
def State.translate (s : State) (kind : Access) (va : Word) : Translated :=
  if s.csr.da = true ∧ s.csr.pg = false then .mapped (va.setWidth Config.palen) (s.csr.directMat kind)
  else if s.csr.da = false ∧ s.csr.pg = true then s.translateMapped kind va
  else .refused .translationMode

/-- The page fields of a TLBELO register (R70). -/
def pageOfTlbelo (w : Word) : TlbPage :=
  { v := bit w 0, d := bit w 1, plv := field w 2 2, mat := field w 4 2, ppn := field w 8 (Config.palen - 12) }

/-- The TLBELO register of a page and its entry's G (R70, R438). -/
def tlbeloOfPage (p : TlbPage) (g : Bool) : Word :=
  place (BitVec.ofBool p.v) 0 ||| place (BitVec.ofBool p.d) 1 ||| place p.plv 2 ||| place p.mat 4 |||
    place (BitVec.ofBool g) 6 ||| place p.ppn 8

/-- `EntryFromCSRs()` (R439): existing during a TLB refill or when NE is 0. -/
def Csrs.tlbEntry (c : Csrs) : TlbEntry :=
  { e := c.ecode == 0x3F#6 || !c.ne
    asid := c.asid
    g := bit c.tlbelo0 6 && bit c.tlbelo1 6
    ps := c.ps
    vppn := c.vppn
    page0 := pageOfTlbelo c.tlbelo0
    page1 := pageOfTlbelo c.tlbelo1 }

/-- The TLB CSRs after TLBRD of an entry (R438): an existing entry's page information with ASID kept (D41, log 44), or
zeros with NE = 1. -/
def Csrs.readTlbEntry (c : Csrs) (e : TlbEntry) : Csrs :=
  if e.e then
    { c with
      tlbehi := place e.vppn 13
      tlbelo0 := tlbeloOfPage e.page0 e.g
      tlbelo1 := tlbeloOfPage e.page1 e.g
      tlbidx := setBit (setField c.tlbidx 24 e.ps) 31 false }
  else
    { c with
      asid := 0#10
      tlbehi := 0#32
      tlbelo0 := 0#32
      tlbelo1 := 0#32
      tlbidx := setBit (setField c.tlbidx 24 0#6) 31 true }

/-- The TLBIDX register after a TLBSRCH that hits entry `i` (R437). -/
def tlbidxAfterHit (tlbidx : Word) (i : Fin Config.tlbEntries) : Word :=
  setBit (setField tlbidx 0 (BitVec.ofNat Config.tlbIndexBits i.val)) 31 false

/-- The entries INVTLB invalidates, by its operation (R441); none for an operation not in the table. -/
def invtlbSelects (op : BitVec 5) (asid : BitVec 10) (va : Word) (e : TlbEntry) : Bool :=
  match op.toNat with
  | 0 => true
  | 1 => true
  | 2 => e.g
  | 3 => !e.g
  | 4 => !e.g && e.asid == asid
  | 5 => !e.g && e.asid == asid && e.matchesVa (field va 13 19)
  | 6 => (e.g || e.asid == asid) && e.matchesVa (field va 13 19)
  | _ => false

/-- The TLB after INVTLB: the selected entries get `E = 0` (R441). -/
def invalidateTlb (op : BitVec 5) (asid : BitVec 10) (va : Word)
    (tlb : Vector TlbEntry Config.tlbEntries) : Vector TlbEntry Config.tlbEntries :=
  tlb.map (fun e => if e.e && invtlbSelects op asid va e then { e with e := false } else e)

end Sys2Proof.Machine
end

