-- ==== Sys2Proof/Machine/Ops.lean ====
section
/-! DEFINITION. The operations that the meanings share: register access, taking an exception and returning from one,
the checks of privilege and enable, and memory accesses.

`spec/10_state.md` R21, R27, R31; `spec/60_exceptions.md` R460, R472, R490, R491, R495; `spec/20_memory.md` R81, R82,
R83, R88, R102. -/

namespace Sys2Proof.Machine

/-- What a step or a meaning answers. -/
abbrev Result := Host.Outcome State Fault Refusal

/-! ### Registers -/

/-- `x[r]`: register 0 reads 0 (R12, R21). -/
def State.reg (s : State) (r : RegNum) : Word := if r = 0#5 then 0#32 else s.gpr.get r.toFin

/-- `x[r] <- v`: a write of register 0 is discarded (R12, R21). -/
def State.setReg (s : State) (r : RegNum) (v : Word) : State :=
  { s with gpr := if r = 0#5 then s.gpr else s.gpr.set r.toNat v r.isLt }

/-- The program counter written (R25). -/
def State.setPc (s : State) (target : Word) : State := { s with pc := target }

/-- Sequential advance: `pc <- pc + 4` modulo 2^32 (R27, R28). -/
def State.advance (s : State) : State := s.setPc (s.pc + 4#32)

/-- `f[r]`, both halves (R30). -/
def State.freg (s : State) (r : RegNum) : FReg := s.fpr.get r.toFin

/-- `f[r]` written whole (R30). -/
def State.setFreg (s : State) (r : RegNum) (v : FReg) : State := { s with fpr := s.fpr.set r.toNat v r.isLt }

/-- A 32-bit write of `f[r]`: bits 31:0 get the value, bits 63:32 a free value, fresh at each execution (R31, U2, log 19). -/
def State.setFregLow (s : State) (r : RegNum) (v : Word) : State :=
  { s.setFreg r { hi := Config.freeHigh s.draws, lo := v } with draws := s.draws + 1 }

/-- `c[n]` (R33). -/
def State.flag (s : State) (n : FlagNum) : Bool := s.cfr.get n.toFin

/-- `c[n] <- b` (R33). -/
def State.setFlag (s : State) (n : FlagNum) (b : Bool) : State := { s with cfr := s.cfr.set n.toNat b n.isLt }

/-- FCSR0 written (R36). -/
def State.setFcsr (s : State) (v : Word) : State := { s with fcsr := v }

/-- The CSRs written. -/
def State.setCsr (s : State) (c : Csrs) : State := { s with csr := c }

/-- LLbit written (R50). -/
def State.setLlbit (s : State) (b : Bool) : State := { s with llbit := b }

/-- LLaddr written (R51). -/
def State.setLladdr (s : State) (pa : PAddr) : State := { s with lladdr := pa }

/-- The TLB written (R56). -/
def State.setTlb (s : State) (t : Vector TlbEntry Config.tlbEntries) : State := { s with tlb := t }

/-- The wait state of IDLE written (R54). -/
def State.setIdle (s : State) (b : Bool) : State := { s with idle := b }

/-- The bytes a fetch may still return, written (R102). -/
def State.setStale (s : State) (l : List StaleByte) : State := { s with stale := l }

/-- The count of free values drawn goes up by `n` (log 14). -/
def State.drawn (s : State) (n : Nat) : State := { s with draws := s.draws + n }

/-! ### Taking an exception and returning from one -/

/-- `Ecode(E)` (R460). -/
def Trap.ecode : Trap → BitVec 6
  | .int => 0x00 | .pil _ => 0x01 | .pis _ => 0x02 | .pif _ => 0x03 | .pme _ => 0x04 | .ppi _ => 0x07
  | .adef _ => 0x08 | .adem _ => 0x08 | .ale _ => 0x09 | .sys => 0x0B | .brk => 0x0C | .ine => 0x0D
  | .ipe => 0x0E | .fpd => 0x0F | .fpe => 0x12 | .tlbr _ => 0x3F

/-- `EsubCode(E)` (R460): 1 for ADEM, else 0. -/
def Trap.esubcode : Trap → BitVec 9
  | .adem _ => 1
  | .int | .pil _ | .pis _ | .pif _ | .pme _ | .ppi _ | .adef _ | .ale _ | .sys | .brk | .ine | .ipe | .fpd | .fpe
  | .tlbr _ => 0

/-- The faulting virtual address that entry records in BADV; none for the others (R66, R490, R491). -/
def Trap.badAddress : Trap → Option Word
  | .pil va | .pis va | .pif va | .pme va | .ppi va | .adef va | .adem va | .ale va | .tlbr va => some va
  | .int | .sys | .brk | .ine | .ipe | .fpd | .fpe => none

/-- The faulting virtual address whose page number entry records in TLBEHI; none for the others (R465, R490, R491). -/
def Trap.pageFault : Trap → Option Word
  | .pil va | .pis va | .pif va | .pme va | .ppi va | .tlbr va => some va
  | .adef _ | .adem _ | .ale _ | .int | .sys | .brk | .ine | .ipe | .fpd | .fpe => none

/-- The exception is the TLB refill (R491). -/
def Trap.isRefill : Trap → Bool
  | .tlbr _ => true
  | .pil _ | .pis _ | .pif _ | .pme _ | .ppi _ | .adef _ | .adem _ | .ale _ | .int | .sys | .brk | .ine | .ipe | .fpd
  | .fpe => false

/-- CRMD after trap entry: PLV and IE 0; for a TLB refill also DA = 1 and PG = 0 (R490, R491). -/
def crmdAtEntry (e : Trap) (crmd : Word) : Word :=
  if e.isRefill then setField crmd 0 (8#5) else setField crmd 0 (0#3)

/-- The CSRs after trap entry from address `pc` (R490, R491). -/
def Csrs.enter (c : Csrs) (e : Trap) (pc : Word) : Csrs :=
  { c with
    prmd := setField c.prmd 0 (field c.crmd 0 3)
    crmd := crmdAtEntry e c.crmd
    era := pc
    estat := setField (setField c.estat 16 e.ecode) 22 e.esubcode
    badv := e.badAddress.getD c.badv
    tlbehi := match e.pageFault with
      | some va => setField c.tlbehi 13 (field va 13 19)
      | none => c.tlbehi }

/-- Where the handler of an exception starts: EENTRY, or TLBRENTRY for the TLB refill, 64-byte aligned (R490, R491). -/
def Csrs.entry (c : Csrs) (e : Trap) : Word :=
  if e.isRefill then entryAddress c.tlbrentry else entryAddress c.eentry

/-- TAKING AN EXCEPTION: `raise E` (R490, R491). Nothing changes but the CSRs named there and the program counter. -/
def State.takeTrap (s : State) (e : Trap) : State := { s with csr := s.csr.enter e s.pc, pc := s.csr.entry e }

/-- CRMD after ERTN: PLV and IE from PRMD; after a TLB refill (Ecode 0x3F) also DA = 0 and PG = 1 (R442, R495). -/
def Csrs.crmdAtReturn (c : Csrs) : Word :=
  if c.ecode = 0x3F#6 then setField (setField c.crmd 0 (field c.prmd 0 3)) 3 (2#2)
  else setField c.crmd 0 (field c.prmd 0 3)

/-- RETURNING FROM AN EXCEPTION: the effect of ERTN (R442, R495). LLbit is kept only when KLO is 1, and KLO is cleared. -/
def State.returnFromTrap (s : State) : State :=
  { s with
    csr := { s.csr with crmd := s.csr.crmdAtReturn, klo := false }
    llbit := s.llbit && s.csr.klo
    pc := s.csr.era }

/-- An instruction that raises an exception: the next state is that of trap entry (R14, R470). -/
def raise (e : Trap) (s : State) : Result := .next (s.takeTrap e)

/-! ### Checks before an instruction's own effect (R472) -/

/-- A privileged instruction: IPE at any privilege level but 0 (R430, R469). -/
def whenPrivileged (s : State) (k : Result) : Result := if s.csr.plv = 0#2 then k else raise .ipe s

/-- A floating-point instruction: FPD while `EUEN.FPE` is 0 (R300 (b), R467). -/
def whenFpEnabled (s : State) (k : Result) : Result := if s.csr.fpe = true then k else raise .fpd s

/-! ### Memory accesses -/

/-- A physical access of a kind: the memory map decides whether there is something to access (R106, log 7). Its first byte
decides for all of it: translation keeps bits 11:0 of the address (log 38 for page sizes the spec leaves open), so the access
is aligned and ends inside the address space, and regions have borders at multiples of 8 (R83; log 7). -/
def physically (kind : Access) (pa : PAddr) (k : Result) : Result :=
  match regionKindAt pa.toNat with
  | some .ram => k
  | some .rom => if kind = .store then .refused .romStore else k
  | some .device => .refused .deviceAccess
  | none => .refused .absentAddress

/-- The checks of a load or store of `n` bytes, in order: alignment (ALE), address and translation, the memory map; then
the access with its physical address and memory access type (R81, R82, R84, R472). -/
def accessing (kind : Access) (n : Nat) (va : Word) (s : State) (k : PAddr → BitVec 2 → Result) : Result :=
  if va.toNat % n ≠ 0 then raise (.ale va) s
  else
    match s.translate kind va with
    | .trapped e => raise e s
    | .refused r => .refused r
    | .mapped pa mat => physically kind pa (k pa mat)

/-- `MemoryLoad(pa, n)` (R83). -/
def State.loadPhysical (s : State) (pa : PAddr) (n : Nat) : Nat := s.mem.load pa.toNat n

/-- `MemoryStore(v, pa, n)` by this core: memory changes, and until IBAR a later fetch may still see the old bytes
(R83, R102). -/
def State.storePhysical (s : State) (pa : PAddr) (n : Nat) (v : Nat) : State :=
  { s with
    mem := s.mem.store pa.toNat n v
    stale := overwritten s.mem pa.toNat n true ++ ownedBy pa.toNat n s.stale }

/-- `MemRead(va, n)` and what is done with the value (R81). -/
def reading (n : Nat) (va : Word) (s : State) (k : Nat → State) : Result :=
  accessing .load n va s (fun pa _ => .next (k (s.loadPhysical pa n)))

/-- `MemWrite(va, n, v)` by an instruction that then advances (R82). -/
def writing (n : Nat) (va : Word) (v : Nat) (s : State) : Result :=
  accessing .store n va s (fun pa _ => .next (s.storePhysical pa n v).advance)

/-- What a fetch gives: an instruction word, an exception or a refusal. -/
inductive Fetched where
  | word (w : Word)
  | trapped (e : Trap)
  | refused (r : Refusal)
  deriving DecidableEq, Repr

/-- The word a fetch of physical address `pa` returns, byte by byte (R88, R85, R102). -/
def State.fetchWordAt (s : State) (pa : PAddr) : Word :=
  fetchByte s.mem s.stale s.draws (pa.toNat + 3) ++ fetchByte s.mem s.stale s.draws (pa.toNat + 2) ++
    fetchByte s.mem s.stale s.draws (pa.toNat + 1) ++ fetchByte s.mem s.stale s.draws pa.toNat

/-- `IFetch(pc)` (R88): ADEF for a misaligned `pc`, then translation, then the word. -/
def State.fetch (s : State) : Fetched :=
  if field s.pc 0 2 ≠ 0#2 then .trapped (.adef s.pc)
  else
    match s.translate .fetch s.pc with
    | .trapped e => .trapped e
    | .refused r => .refused r
    | .mapped pa _ =>
      match regionKindAt pa.toNat with
      | some .ram | some .rom => .word (s.fetchWordAt pa)
      | some .device => .refused .deviceAccess
      | none => .refused .absentAddress

end Sys2Proof.Machine
end

