-- ==== Sys2Proof/Machine/Agents.lean ====
section
/-! DEFINITION. The moves of the agents other than the core: the counter and timer, other agents' stores, the interrupt
inputs, the loss of a reservation, and reset.

`spec/00_scope.md` R7; `spec/60_exceptions.md` R480, R500, R501; `spec/44_atomic_barrier.md` R272;
`spec/70_reset_and_hazards.md` R533. -/

namespace Sys2Proof.Machine

/-- One tick of the timer (R500): count down; at 0 set the timer interrupt and reload or stop. -/
def State.timerTick (s : State) : State :=
  if s.timerRunning = false then s
  else if s.csr.tval ≠ 0#32 then { s with csr := { s.csr with tval := s.csr.tval - 1#32 } }
  else if bit s.csr.tcfg 1 then
    { s with csr := { s.csr.setPending 11 true with tval := timerInitial s.csr.tcfg } }
  else { s with csr := s.csr.setPending 11 true, timerRunning := false }

/-- One counting clock: the Stable Counter goes up by 1 modulo 2^64 and the timer ticks (R52, R500, R501). -/
def counterTick (s : State) : State := { s.timerTick with counter := s.counter + 1#64 }

/-- Two physical addresses lie in one line of the data cache: in one aligned word, or equal above the line offset, where the
implementation has that cache (R51, R272, log 41). -/
def sameLine (a b : Nat) : Bool :=
  a / 4 == b / 4 ||
    match Config.cacheGeom 1#3 with
    | some g => a >>> g.offset == b >>> g.offset
    | none => false

/-- A store completed by another agent: memory changes, LLbit is cleared when a byte lies in the reserved line, and this
core's fetch may still see the old bytes (R272, R102, log 29). -/
def externalStore (s : State) (pa : PAddr) (bytes : List Byte) : State :=
  { s with
    mem := s.mem.writeBytes pa.toNat bytes
    stale := overwritten s.mem pa.toNat bytes.length false ++ s.stale
    llbit := s.llbit && !((List.range bytes.length).any (fun i => sameLine (pa.toNat + i) s.lladdr.toNat)) }

/-- Hardware interrupt line HWI`n` takes a level: `ESTAT.IS[2+n]` shows it (R64, R480). -/
def interruptLine (s : State) (n : BitVec 3) (level : Bool) : State :=
  s.setCsr (s.csr.setPending (2 + n.toNat) level)

/-- The inter-processor interrupt line takes a level: `ESTAT.IS[12]` shows it (R64, R480). -/
def ipiLine (s : State) (level : Bool) : State := s.setCsr (s.csr.setPending 12 level)

/-- The interrupt-status bits that follow input lines: IS[9:2] and IS[12] (R64). -/
def inputLines : Word := ones 2 8 ||| ones 12 1

/-- Reset as an event (R533): the state of R531, with the input lines as they are and ERA not written. Memory keeps its
contents, log 17. -/
def resetEvent (s : State) : State :=
  { State.reset with
    csr := { Csrs.reset with estat := s.csr.estat &&& inputLines, era := s.csr.era }
    mem := s.mem
    agenda := s.agenda
    draws := s.draws }

end Sys2Proof.Machine
end

