-- ==== Sys2Proof/Machine/Ieee.lean ====
section
/-! DEFINITION. The IEEE 754-2008 operations of `spec/46_fp_arith.md` R341, R342, R345, R339 and
`spec/47_fp_cmp_cvt.md` R360, R377.

A datum is its bit pattern as a number. An operation computes the exact result with numbers and integers and rounds
once. What IEEE 754-2008 leaves to the implementation is taken from `Config` (`FP_NUMERICS`, R341). -/

namespace Sys2Proof.Machine

/-- The rounding modes of `FCSR.RM` (`spec/10_state.md` R37). -/
inductive RoundMode where
  /-- 0: to nearest, ties to even. -/
  | nearestEven
  /-- 1: toward zero. -/
  | towardZero
  /-- 2: toward plus infinity. -/
  | towardPositive
  /-- 3: toward minus infinity. -/
  | towardNegative
  deriving DecidableEq, Repr

/-- A set of exception signals, bit order I = 0, U = 1, O = 2, Z = 3, V = 4 (R343). -/
abbrev Signals := BitVec 5

/-- No signal. -/
def Signals.none : Signals := 0#5
/-- I, inexact. -/
def Signals.inexact : Signals := 1#5
/-- U, underflow. -/
def Signals.underflow : Signals := 2#5
/-- O, overflow. -/
def Signals.overflow : Signals := 4#5
/-- Z, division by zero. -/
def Signals.divByZero : Signals := 8#5
/-- V, invalid operation. -/
def Signals.invalid : Signals := 16#5

/-- The bits of an operation's result and what it signals. -/
structure FpResult where
  bits : Nat
  signals : Signals
  deriving DecidableEq, Repr

/-- The value of a datum. A finite one is `(-1)^neg * m * 2^e`. -/
inductive FpVal where
  | nan (signalling : Bool)
  | inf (neg : Bool)
  | fin (neg : Bool) (m : Nat) (e : Int)
  deriving DecidableEq, Repr

/-! ### Formats (R341) -/

/-- Width of the exponent field. -/
def expBits : FpFormat → Nat
  | .single => 8
  | .double => 11

/-- Width of the fraction field. -/
def fracBits : FpFormat → Nat
  | .single => 23
  | .double => 52

/-- Exponent bias, 127 or 1023. -/
def bias (f : FpFormat) : Nat := 2 ^ (expBits f - 1) - 1

/-- The weight of the sign bit. -/
def signWeight (f : FpFormat) : Nat := 2 ^ (expBits f + fracBits f)

/-- The pattern of plus infinity: exponent all ones, fraction 0. -/
def infPattern (f : FpFormat) : Nat := (2 ^ expBits f - 1) * 2 ^ fracBits f

/-- The weight of the top fraction bit, 1 in a quiet NaN. -/
def quietWeight (f : FpFormat) : Nat := 2 ^ (fracBits f - 1)

/-- The exponent of the least significant bit of a subnormal: -149 or -1074. -/
def minQuantum (f : FpFormat) : Int := 1 - (bias f : Int) - (fracBits f : Int)

/-- The pattern of 1.0: `0x3F800000`, `0x3FF0000000000000` (R331, R332). -/
def onePattern (f : FpFormat) : Nat := bias f * 2 ^ fracBits f

/-- The sign bit of a pattern. -/
def signOf (f : FpFormat) (x : Nat) : Bool := x / signWeight f % 2 == 1

/-- The exponent field of a pattern. -/
def expField (f : FpFormat) (x : Nat) : Nat := x / 2 ^ fracBits f % 2 ^ expBits f

/-- The fraction field of a pattern. -/
def fracField (f : FpFormat) (x : Nat) : Nat := x % 2 ^ fracBits f

/-- A magnitude pattern with a sign. -/
def withSign (f : FpFormat) (neg : Bool) (mag : Nat) : Nat := (if neg then signWeight f else 0) + mag

/-- The value of a pattern (R341). -/
def unpack (f : FpFormat) (x : Nat) : FpVal :=
  if expField f x = 2 ^ expBits f - 1 then
    if fracField f x = 0 then .inf (signOf f x) else .nan (fracField f x < quietWeight f)
  else if expField f x = 0 then .fin (signOf f x) (fracField f x) (minQuantum f)
  else .fin (signOf f x) (2 ^ fracBits f + fracField f x) (minQuantum f + (expField f x : Int) - 1)

/-- The pattern is a NaN. -/
def isNan (f : FpFormat) (x : Nat) : Bool :=
  match unpack f x with
  | .nan _ => true
  | .inf _ | .fin .. => false

/-- The pattern is a signalling NaN. -/
def isSignalling (f : FpFormat) (x : Nat) : Bool :=
  match unpack f x with
  | .nan sig => sig
  | .inf _ | .fin .. => false

/-! ### NaN results (R341, R342, U16, log 20) -/

/-- A quiet NaN whose sign and payload are taken from a free number. -/
def quietNan (f : FpFormat) (free : Nat) : Nat :=
  withSign f (signOf f free) (infPattern f + quietWeight f + free % quietWeight f)

/-- The result of an invalid operation on operands that are not NaN. -/
def invalidResult (f : FpFormat) : FpResult := { bits := quietNan f (Config.defaultNan f), signals := .invalid }

/-- The result when an operand is a NaN: quiet, with V exactly when an operand is signalling (R342). -/
def nanResult (f : FpFormat) (op : FpOp) (operands : List Nat) (anySignalling : Bool) : FpResult :=
  { bits := quietNan f (Config.nanPropagate f op operands)
    signals := if anySignalling then .invalid else .none }

/-! ### Rounding (R341) -/

/-- The number of bits of `m`, 0 for 0. -/
def bitLength (m : Nat) : Nat := if m = 0 then 0 else Nat.log2 m + 1

/-- Whether a magnitude is rounded away from zero, given the kept integer, and the discarded part as a remainder of
`2^d` and a flag for anything smaller. -/
def roundsUp (rm : RoundMode) (neg : Bool) (kept rest d : Nat) (sticky : Bool) : Bool :=
  match rm with
  | .nearestEven =>
    if d = 0 then false
    else 2 ^ (d - 1) < rest || (rest == 2 ^ (d - 1) && (sticky || kept % 2 == 1))
  | .towardZero => false
  | .towardPositive => !neg && (rest != 0 || sticky)
  | .towardNegative => neg && (rest != 0 || sticky)

/-- `m` with its low `d` bits rounded off. -/
def roundedQuotient (rm : RoundMode) (neg : Bool) (m d : Nat) (sticky : Bool) : Nat :=
  m / 2 ^ d + if roundsUp rm neg (m / 2 ^ d) (m % 2 ^ d) d sticky then 1 else 0

/-- The magnitude an overflow gives: infinity or the largest finite number, by mode and sign (R341). -/
def overflowMagnitude (f : FpFormat) (rm : RoundMode) (neg : Bool) : Nat :=
  match rm with
  | .nearestEven => infPattern f
  | .towardZero => infPattern f - 1
  | .towardPositive => if neg then infPattern f - 1 else infPattern f
  | .towardNegative => if neg then infPattern f else infPattern f - 1

/-- The result is tiny when detected after rounding: rounded to the format's precision with the exponent unbounded, it
is below the smallest normal number. -/
def tinyAfterRounding (f : FpFormat) (rm : RoundMode) (neg : Bool) (m : Nat) (e : Int) (sticky : Bool) : Bool :=
  let below : Int := 1 - (bias f : Int) - (e + bitLength m)
  if below < 0 then false
  else if 0 < below then true
  else roundedQuotient rm neg m (bitLength m - (fracBits f + 1)) sticky < 2 ^ (fracBits f + 1)

/-- The exact magnitude is not 0 and below the smallest normal number. -/
def tinyBeforeRounding (f : FpFormat) (m : Nat) (e : Int) : Bool :=
  m != 0 && decide (e + bitLength m ≤ 1 - (bias f : Int))

/-- Underflow is detected after rounding, or before it where the implementation does so (`tininess`, log 21). -/
def tiny (f : FpFormat) (rm : RoundMode) (neg : Bool) (m : Nat) (e : Int) (sticky : Bool) : Bool :=
  tinyBeforeRounding f m e && (tinyAfterRounding f rm neg m e sticky || Config.tininessBeforeRounding)

/-- The exponent of the least significant bit kept: the format's precision, but not below a subnormal's. -/
def quantum (f : FpFormat) (m : Nat) (e : Int) : Int := max (minQuantum f) (e + bitLength m - (fracBits f + 1 : Nat))

/-- A magnitude of `n` units of `2^q`, `q` not below the smallest quantum, as a pattern without sign (it may pass
infinity's). -/
def magnitudePattern (f : FpFormat) (n : Nat) (q : Int) : Nat := n + (q - minQuantum f).toNat * 2 ^ fracBits f

/-- The correctly rounded result of the exact value `(-1)^neg * m * 2^e`, or of one strictly between that and the
next `m` when `sticky` is set (then `m` has at least two bits more than the format keeps). Signals O with I, I, and U
only when inexact (R341). -/
def roundPack (f : FpFormat) (rm : RoundMode) (neg : Bool) (m : Nat) (e : Int) (sticky : Bool) : FpResult :=
  if e < quantum f m e then
    let d := (quantum f m e - e).toNat
    let mag := magnitudePattern f (roundedQuotient rm neg m d sticky) (quantum f m e)
    let inexact := m % 2 ^ d != 0 || sticky
    if infPattern f ≤ mag then
      { bits := withSign f neg (overflowMagnitude f rm neg), signals := .overflow ||| .inexact }
    else
      { bits := withSign f neg mag
        signals := if inexact then (if tiny f rm neg m e sticky then .underflow ||| .inexact else .inexact) else .none }
  else
    let mag := magnitudePattern f (m * 2 ^ (e - quantum f m e).toNat) (quantum f m e)
    if infPattern f ≤ mag then
      { bits := withSign f neg (overflowMagnitude f rm neg), signals := .overflow ||| .inexact }
    else { bits := withSign f neg mag, signals := .none }

/-- An exact result of a pattern's own. -/
def exactly (bits : Nat) : FpResult := { bits := bits, signals := .none }

/-- The pattern of a signed infinity. -/
def infinity (f : FpFormat) (neg : Bool) : FpResult := exactly (withSign f neg (infPattern f))

/-- The pattern of a signed zero. -/
def zero (f : FpFormat) (neg : Bool) : FpResult := exactly (withSign f neg 0)

/-- The sign of an exact zero sum of operands of unlike signs: minus only toward minus infinity (R301). -/
def zeroSumSign (rm : RoundMode) : Bool := rm = .towardNegative

/-- An integer multiple of `2^e`, rounded; `zeroNeg` is the sign of a zero. -/
def roundInt (f : FpFormat) (rm : RoundMode) (n : Int) (e : Int) (zeroNeg : Bool) : FpResult :=
  if n = 0 then zero f zeroNeg else roundPack f rm (n < 0) n.natAbs e false

/-- The signed integer `(-1)^neg * m`. -/
def signedInt (neg : Bool) (m : Nat) : Int := if neg then -(m : Int) else m

/-- The exact sum of two finite values, rounded once (R301). -/
def addFinite (f : FpFormat) (rm : RoundMode) (sx : Bool) (mx : Nat) (ex : Int) (sy : Bool) (my : Nat) (ey : Int) :
    FpResult :=
  let e := min ex ey
  roundInt f rm (signedInt sx mx * 2 ^ (ex - e).toNat + signedInt sy my * 2 ^ (ey - e).toNat) e
    (if sx == sy then sx else zeroSumSign rm)

/-! ### Arithmetic (R301 to R316) -/

/-- The sum of two values; `op` and `operands` name the operation for a NaN result. -/
def addValues (f : FpFormat) (rm : RoundMode) (op : FpOp) (operands : List Nat) (x y : FpVal) : FpResult :=
  match x, y with
  | .nan p, .nan q => nanResult f op operands (p || q)
  | .nan p, .inf _ => nanResult f op operands p
  | .nan p, .fin .. => nanResult f op operands p
  | .inf _, .nan q => nanResult f op operands q
  | .fin .., .nan q => nanResult f op operands q
  | .inf p, .inf q => if p = q then infinity f p else invalidResult f
  | .inf p, .fin .. => infinity f p
  | .fin .., .inf q => infinity f q
  | .fin sx mx ex, .fin sy my ey => addFinite f rm sx mx ex sy my ey

/-- A value with its sign inverted. -/
def FpVal.negate : FpVal → FpVal
  | .nan p => .nan p
  | .inf p => .inf !p
  | .fin p m e => .fin (!p) m e

/-- `addition(x, y)` (R301, R302). -/
def fpAdd (f : FpFormat) (rm : RoundMode) (x y : Nat) : FpResult :=
  addValues f rm .add [x, y] (unpack f x) (unpack f y)

/-- `subtraction(x, y)` (R303, R304). -/
def fpSub (f : FpFormat) (rm : RoundMode) (x y : Nat) : FpResult :=
  addValues f rm .sub [x, y] (unpack f x) (unpack f y).negate

/-- `multiplication(x, y)` (R305, R306): the exact product, rounded once; zero and infinite products have the XOR of the
signs. -/
def fpMul (f : FpFormat) (rm : RoundMode) (x y : Nat) : FpResult :=
  match unpack f x, unpack f y with
  | .nan p, .nan q => nanResult f .mul [x, y] (p || q)
  | .nan p, .inf _ => nanResult f .mul [x, y] p
  | .nan p, .fin .. => nanResult f .mul [x, y] p
  | .inf _, .nan q => nanResult f .mul [x, y] q
  | .fin .., .nan q => nanResult f .mul [x, y] q
  | .inf p, .inf q => infinity f (p != q)
  | .inf p, .fin q m _ => if m = 0 then invalidResult f else infinity f (p != q)
  | .fin p m _, .inf q => if m = 0 then invalidResult f else infinity f (p != q)
  | .fin sx mx ex, .fin sy my ey =>
    if mx * my = 0 then zero f (sx != sy) else roundPack f rm (sx != sy) (mx * my) (ex + ey) false

/-- The quotient of two non-zero finite magnitudes: enough quotient bits that one rounding remains, the rest as a sticky
flag. -/
def divFinite (f : FpFormat) (rm : RoundMode) (neg : Bool) (mx : Nat) (ex : Int) (my : Nat) (ey : Int) : FpResult :=
  let k := fracBits f + 3 + bitLength my
  roundPack f rm neg (mx * 2 ^ k / my) (ex - ey - k) (mx * 2 ^ k % my != 0)

/-- `division(x, y)` (R307, R308): a finite non-zero number over zero is a signed infinity with Z; 0/0 and inf/inf are
invalid. -/
def fpDiv (f : FpFormat) (rm : RoundMode) (x y : Nat) : FpResult :=
  match unpack f x, unpack f y with
  | .nan p, .nan q => nanResult f .div [x, y] (p || q)
  | .nan p, .inf _ => nanResult f .div [x, y] p
  | .nan p, .fin .. => nanResult f .div [x, y] p
  | .inf _, .nan q => nanResult f .div [x, y] q
  | .fin .., .nan q => nanResult f .div [x, y] q
  | .inf _, .inf _ => invalidResult f
  | .inf p, .fin q _ _ => infinity f (p != q)
  | .fin p _ _, .inf q => zero f (p != q)
  | .fin sx mx ex, .fin sy my ey =>
    if my = 0 then
      if mx = 0 then invalidResult f
      else { bits := withSign f (sx != sy) (infPattern f), signals := .divByZero }
    else if mx = 0 then zero f (sx != sy)
    else divFinite f rm (sx != sy) mx ex my ey

/-- The exact product of two values that are not NaN, as the first addend of a fused operation; none when it is
infinity times zero. -/
def exactProduct (x y : FpVal) : Option FpVal :=
  match x, y with
  | .inf p, .inf q => some (.inf (p != q))
  | .inf p, .fin q m _ => if m = 0 then none else some (.inf (p != q))
  | .fin p m _, .inf q => if m = 0 then none else some (.inf (p != q))
  | .fin sx mx ex, .fin sy my ey => some (.fin (sx != sy) (mx * my) (ex + ey))
  | .nan _, _ => none
  | .inf _, .nan _ => none
  | .fin .., .nan _ => none

/-- `fusedMultiplyAdd(x, y, z)`: `x * y + z` exactly, rounded once (R344). Infinity times zero is invalid; with a quiet
NaN addend it signals V only where the implementation does so (R341, log 23). -/
def fpFma (f : FpFormat) (rm : RoundMode) (x y z : Nat) : FpResult :=
  if isNan f x || isNan f y || isNan f z then
    let sig := isSignalling f x || isSignalling f y || isSignalling f z
    if isNan f x || isNan f y then nanResult f .fma [x, y, z] sig
    else if (exactProduct (unpack f x) (unpack f y)).isNone then
      nanResult f .fma [x, y, z] (sig || Config.fmaInfZeroQnanInvalid)
    else nanResult f .fma [x, y, z] sig
  else
    match exactProduct (unpack f x) (unpack f y) with
    | none => invalidResult f
    | some p => addValues f rm .fma [x, y, z] p (unpack f z)

/-! ### Square root (R329, R330) -/

/-- One digit of the integer square root: `r` is the root of all but the last two bits of `n`. -/
def sqrtDigit (n r : Nat) : Nat := if (2 * r + 1) * (2 * r + 1) ≤ n then 2 * r + 1 else 2 * r

/-- The integer square root of `n`, for `n < 4^fuel`, digit by digit. -/
def isqrt : Nat → Nat → Nat
  | 0, _ => 0
  | fuel + 1, n => sqrtDigit n (isqrt fuel (n / 4))

/-- The root of a positive finite magnitude: its exponent made even, enough bits that one rounding remains. -/
def sqrtFinite (f : FpFormat) (rm : RoundMode) (m : Nat) (e : Int) : FpResult :=
  let odd := (e % 2).toNat
  let k := fracBits f + 3
  let n := m * 2 ^ (odd + 2 * k)
  let r := isqrt (bitLength n) n
  roundPack f rm false r ((e - odd) / 2 - k) (r * r != n)

/-- `squareRoot(x)`: invalid below zero; minus zero gives minus zero, plus infinity itself. -/
def fpSqrt (f : FpFormat) (rm : RoundMode) (x : Nat) : FpResult :=
  match unpack f x with
  | .nan p => nanResult f .sqrt [x] p
  | .inf neg => if neg then invalidResult f else infinity f false
  | .fin neg m e =>
    if m = 0 then zero f neg
    else if neg then invalidResult f
    else sqrtFinite f rm m e

/-- `division(1.0, x)` (R331, R332). -/
def fpRecip (f : FpFormat) (rm : RoundMode) (x : Nat) : FpResult := fpDiv f rm (onePattern f) x

/-- `division(1.0, squareRoot(x))`, two roundings, the union of both steps' signals (R333, R334, C21, log 24). -/
def fpRsqrt (f : FpFormat) (rm : RoundMode) (x : Nat) : FpResult :=
  let r := fpSqrt f rm x
  let q := fpDiv f rm (onePattern f) r.bits
  { bits := q.bits, signals := r.signals ||| q.signals }

/-! ### Comparison (R360) -/

/-- The four relations of two operands (R360). -/
inductive FpRel where
  | lt | eq | gt | un
  deriving DecidableEq, Repr

/-- The order of two integers as a relation. -/
def relOfInts (a b : Int) : FpRel := if a < b then .lt else if a = b then .eq else .gt

/-- The order of two finite values: their integers over a common power of two; plus and minus zero are equal. -/
def compareFinite (sx : Bool) (mx : Nat) (ex : Int) (sy : Bool) (my : Nat) (ey : Int) : FpRel :=
  let e := min ex ey
  relOfInts (signedInt sx mx * 2 ^ (ex - e).toNat) (signedInt sy my * 2 ^ (ey - e).toNat)

/-- The relation of two values: unordered with a NaN, minus infinity below everything finite (R360, R361). -/
def compareValues (x y : FpVal) : FpRel :=
  match x, y with
  | .nan _, .nan _ => .un
  | .nan _, .inf _ => .un
  | .nan _, .fin .. => .un
  | .inf _, .nan _ => .un
  | .fin .., .nan _ => .un
  | .inf p, .inf q => if p = q then .eq else if p then .lt else .gt
  | .inf p, .fin .. => if p then .lt else .gt
  | .fin .., .inf q => if q then .gt else .lt
  | .fin sx mx ex, .fin sy my ey => compareFinite sx mx ex sy my ey

/-- The relation of two patterns (R361, R362). -/
def fpCompare (f : FpFormat) (x y : Nat) : FpRel := compareValues (unpack f x) (unpack f y)

/-- What a comparison signals: V for a signalling NaN, and for any NaN when the condition signals (R360, R361). -/
def compareSignals (f : FpFormat) (signalling : Bool) (x y : Nat) : Signals :=
  if isSignalling f x || isSignalling f y || (signalling && (isNan f x || isNan f y)) then .invalid else .none

/-- A comparison condition, 5 bits (R360). -/
def condHolds (cond : BitVec 5) (rel : FpRel) : Bool :=
  (cond.getLsbD 1 && rel = .lt) || (cond.getLsbD 2 && rel = .eq) || (cond.getLsbD 3 && rel = .un) ||
    (cond.getLsbD 4 && (rel = .lt || rel = .gt))

/-! ### Maximum and minimum (R345) -/

/-- The magnitude part of a pattern, without the sign. -/
def magnitudeOf (f : FpFormat) (x : Nat) : Nat := x % signWeight f

/-- Of two patterns that are numbers, the one an order prefers: the first on `first`, the second on the opposite
relation; equal ones are the same bits, or zeros of unlike sign, of which either may result (R345, log 22). -/
def pickByOrder (f : FpFormat) (op : FpOp) (first : FpRel) (x y : Nat) : Nat :=
  match fpCompare f x y with
  | .eq => if x = y then x else if Config.maxMinZeroFirst f op (signOf f x) then x else y
  | r => if r = first then x else y

/-- Of two patterns that are numbers, the one whose magnitude an order prefers; on equal magnitudes `pickByOrder`. -/
def pickByMagnitude (f : FpFormat) (op : FpOp) (first : FpRel) (x y : Nat) : Nat :=
  match fpCompare f (magnitudeOf f x) (magnitudeOf f y) with
  | .eq => pickByOrder f op first x y
  | r => if r = first then x else y

/-- NaN handling of the max/min operations: one quiet NaN gives the other operand, two a quiet NaN, a signalling NaN
signals V (R342, R345). -/
def maxMin (f : FpFormat) (op : FpOp) (pick : Nat → Nat → Nat) (x y : Nat) : FpResult :=
  if isSignalling f x || isSignalling f y then nanResult f op [x, y] true
  else if isNan f x && isNan f y then nanResult f op [x, y] false
  else if isNan f x then exactly y
  else if isNan f y then exactly x
  else exactly (pick x y)

/-- `maxNum(x, y)` (R317, R318). -/
def fpMax (f : FpFormat) (x y : Nat) : FpResult := maxMin f .max (pickByOrder f .max .gt) x y
/-- `minNum(x, y)` (R319, R320). -/
def fpMin (f : FpFormat) (x y : Nat) : FpResult := maxMin f .min (pickByOrder f .min .lt) x y
/-- `maxNumMag(x, y)` (R321, R322). -/
def fpMaxMag (f : FpFormat) (x y : Nat) : FpResult := maxMin f .maxMag (pickByMagnitude f .maxMag .gt) x y
/-- `minNumMag(x, y)` (R323, R324). -/
def fpMinMag (f : FpFormat) (x y : Nat) : FpResult := maxMin f .minMag (pickByMagnitude f .minMag .lt) x y

/-! ### Sign and class (R325 to R328, R335 to R339) -/

/-- `abs(x)`: the sign bit 0, the rest unchanged. -/
def fpAbs (f : FpFormat) (x : Nat) : Nat := magnitudeOf f x

/-- `negate(x)`: the sign bit inverted, the rest unchanged. -/
def fpNeg (f : FpFormat) (x : Nat) : Nat := withSign f (!signOf f x) (magnitudeOf f x)

/-- `copySign(x, y)`: `x` with the sign bit of `y`. -/
def fpCopySign (f : FpFormat) (x y : Nat) : Nat := withSign f (signOf f y) (magnitudeOf f x)

/-- The bit of the class vector (R339). -/
def classBit (f : FpFormat) (x : Nat) : Nat :=
  match unpack f x with
  | .nan sig => if sig then 0 else 1
  | .inf neg => if neg then 2 else 6
  | .fin neg m _ =>
    if m = 0 then (if neg then 5 else 9)
    else if m < 2 ^ fracBits f then (if neg then 4 else 8)
    else (if neg then 3 else 7)

/-- `class(x)`: exactly one of ten bits (R339). -/
def fpClass (f : FpFormat) (x : Nat) : Nat := 2 ^ classBit f x

/-! ### Conversions (R363 to R366, R377) -/

/-- `convertFormat`: from one format to another, rounded (R363, R364). -/
def fpConvert (src dst : FpFormat) (rm : RoundMode) (x : Nat) : FpResult :=
  match unpack src x with
  | .nan p => nanResult dst .convert [x] p
  | .inf neg => infinity dst neg
  | .fin neg m e => if m = 0 then zero dst neg else roundPack dst rm neg m e false

/-- `convertFromInt` of a signed integer, rounded (R365, R366). -/
def fpFromInt (f : FpFormat) (rm : RoundMode) (n : Int) : FpResult := roundInt f rm n 0 false

/-- The integer of an invalid conversion, with V (R377, R378, log 25). -/
def invalidInt (f : FpFormat) (x : Nat) : FpResult :=
  { bits := (Config.ftintInvalid f x).toNat, signals := .invalid }

/-- The magnitude of a finite value rounded to an integer, and whether it was not one (R377). -/
def roundToInt (rm : RoundMode) (neg : Bool) (m : Nat) (e : Int) : Nat × Bool :=
  if 0 ≤ e then (m * 2 ^ e.toNat, false)
  else (roundedQuotient rm neg m (-e).toNat false, m % 2 ^ (-e).toNat != 0)

/-- `convertToSint32(x, rm)` (R377). -/
def fpToInt (f : FpFormat) (rm : RoundMode) (x : Nat) : FpResult :=
  match unpack f x with
  | .nan _ => invalidInt f x
  | .inf _ => invalidInt f x
  | .fin neg m e =>
    let n := signedInt neg (roundToInt rm neg m e).1
    if n < -2 ^ 31 ∨ 2 ^ 31 - 1 < n then invalidInt f x
    else
      { bits := (BitVec.ofInt 32 n).toNat
        signals := if (roundToInt rm neg m e).2 then .inexact else .none }

end Sys2Proof.Machine
end

