-- ==== Sys2Proof/Machine/Operands.lean ====
section
/-! DEFINITION. The operand forms: effective addresses, branch targets, and floating-point operands.

`spec/43_load_store.md` R250; `spec/44_atomic_barrier.md` R274; `spec/42_branch.md` R230; `spec/30_encoding.md` R124;
`spec/46_fp_arith.md` R300 (c), (d). -/

namespace Sys2Proof.Machine

/-- `x[rj] + sext_32(si12)` modulo 2^32 (R250, R411). -/
def State.address (s : State) (rj : RegNum) (si12 : BitVec 12) : Word := s.reg rj + sext32 si12

/-- `x[rj] + sext_32({si14, 2'b0})` modulo 2^32 (R274). -/
def State.scaledAddress (s : State) (rj : RegNum) (si14 : BitVec 14) : Word := s.reg rj + scaled si14

/-- `pc + sext_32({offs, 2'b0})`, the target of a PC-relative branch (R230). -/
def State.branchTarget {n : Nat} (s : State) (offs : BitVec n) : Word := s.pc + scaled offs

/-- A conditional branch: to its target when taken, else to the next instruction (R230). -/
def State.branchIf {n : Nat} (s : State) (taken : Bool) (offs : BitVec n) : State :=
  s.setPc (if taken then s.branchTarget offs else s.pc + 4#32)

/-- `{si20, 12'b0}` (R124). -/
def upperImmediate (si20 : BitVec 20) : Word := si20 ++ 0#12

/-- All 64 bits of a floating-point register as a number. -/
def FReg.doubleBits (r : FReg) : Nat := (r.hi ++ r.lo : BitVec 64).toNat

/-- A floating-point register with the 64 bits of a number. -/
def FReg.ofDoubleBits (n : Nat) : FReg := { hi := BitVec.ofNat 32 (n / 2 ^ 32), lo := BitVec.ofNat 32 n }

/-- The pattern a `.S` or `.D` instruction reads from `f[r]`: bits 31:0, or all 64 (R300 (c)). -/
def State.fpOperand (s : State) (f : FpFormat) (r : RegNum) : Nat :=
  match f with
  | .single => (s.freg r).lo.toNat
  | .double => (s.freg r).doubleBits

/-- The write of a `.S` or `.D` result: bits 31:0 with a free high half, or all 64 bits (R300 (d), R31). -/
def State.setFpResult (s : State) (f : FpFormat) (r : RegNum) (bits : Nat) : State :=
  match f with
  | .single => s.setFregLow r (BitVec.ofNat 32 bits)
  | .double => s.setFreg r (FReg.ofDoubleBits bits)

/-- `x[rd] <- v`, then the next instruction (R170 (e), R200 (e)). -/
def produce (rd : RegNum) (v : Word) (s : State) : Result := .next (s.setReg rd v).advance

end Sys2Proof.Machine
end

