-- ==== Sys2Proof/Machine/Atomic.lean ====
section
/-! DEFINITION. LL.W, SC.W and the barriers: `spec/44_atomic_barrier.md` R270 to R277. -/

namespace Sys2Proof.Machine

/-- The memory access type is coherent cached, MAT = 1 (R87); 0, 2 and 3 are not (log 54). -/
def isCached (mat : BitVec 2) : Bool := mat == 1#2

/-- LL.W of a cached word: the word goes to `rd`, LLbit is set, the physical address recorded (R270). -/
def loadLinked (rd : RegNum) (pa : PAddr) (s : State) : State :=
  (((s.setReg rd (BitVec.ofNat 32 (s.loadPhysical pa 4))).setLlbit true).setLladdr pa).advance

/-- LL.W of a word that is not cached: the value in `rd` and LLbit are free (R273, U4, log 26). -/
def loadLinkedUncached (rd : RegNum) (pa : PAddr) (s : State) : State :=
  ((((s.setReg rd (Config.freeWord s.draws)).setLlbit (Config.freeBit s.draws)).setLladdr pa).drawn 1).advance

/-- The store of SC.W, made only when `doit` holds. -/
def storeIf (doit : Bool) (pa : PAddr) (v : Word) (s : State) : State :=
  if doit then s.storePhysical pa 4 v.toNat else s

/-- SC.W of a cached word: stores if LLbit is 1, writes the LLbit it saw to `rd`, clears LLbit (R271, D40). -/
def storeConditional (rd : RegNum) (pa : PAddr) (s : State) : State :=
  (((storeIf s.llbit pa (s.reg rd) s).setReg rd (boolWord s.llbit)).setLlbit false).advance

/-- SC.W of a word that is not cached: whether it stores, the value in `rd` and LLbit are free (R273, U4, log 26). -/
def storeConditionalUncached (rd : RegNum) (pa : PAddr) (s : State) : State :=
  ((((storeIf (Config.freeBit s.draws) pa (s.reg rd) s).setReg rd (Config.freeWord s.draws)).setLlbit
    (Config.freeBit (s.draws + 1))).drawn 2).advance

/-- LL.W rd, rj, si14 (R270): a word loaded and its address reserved. -/
def execLlW (rd rj : RegNum) (si14 : BitVec 14) (s : State) : Result :=
  accessing .load 4 (s.scaledAddress rj si14) s
    (fun pa mat => .next (if isCached mat then loadLinked rd pa s else loadLinkedUncached rd pa s))

/-- SC.W rd, rj, si14 (R271): a word stored if the reservation holds; the checks of a store come first, whatever LLbit is (D37). -/
def execScW (rd rj : RegNum) (si14 : BitVec 14) (s : State) : Result :=
  accessing .store 4 (s.scaledAddress rj si14) s
    (fun pa mat => .next (if isCached mat then storeConditional rd pa s else storeConditionalUncached rd pa s))

/-- A barrier hint acts as hint 0 unless the implementation gives it a function of its own (R275, R276, U8). -/
def actsAsHint0 (special : List (BitVec 15)) (hint : BitVec 15) : Bool := hint == 0#15 || !special.contains hint

/-- The barrier between loads and stores, full or weaker: with one core's accesses in program order neither has anything
to change (R100, R275). -/
def barrier (_full : Bool) (s : State) : State := s

/-- DBAR hint (R275): with one core nothing but the program counter changes. -/
def execDbar (hint : BitVec 15) (s : State) : Result := .next (barrier (actsAsHint0 Config.dbarHints hint) s).advance

/-- The old bytes a fetch may still return after a full IBAR: those over which only other agents have stored (R276,
log 29). -/
def afterIbar (stale : List StaleByte) : List StaleByte := stale.filter (fun e => !e.own)

/-- IBAR hint (R276): later fetches see all of this core's stores. A hint with a function of its own, of which there is
none by default, is taken to end nothing (log 31). -/
def execIbar (hint : BitVec 15) (s : State) : Result :=
  .next (if actsAsHint0 Config.ibarHints hint then s.setStale (afterIbar s.stale) else s).advance

end Sys2Proof.Machine
end

