-- ==== Sys2Proof/Machine/Branch.lean ====
section
/-! DEFINITION. Branches and jumps: `spec/42_branch.md` R230 to R241. A misaligned target is found by the next fetch (R241). -/

namespace Sys2Proof.Machine

/-- BEQ rj, rd, offs16 (R231): taken when equal. -/
def execBeq (rj rd : RegNum) (offs16 : BitVec 16) (s : State) : Result :=
  .next (s.branchIf (s.reg rj == s.reg rd) offs16)

/-- BNE rj, rd, offs16 (R232): taken when different. -/
def execBne (rj rd : RegNum) (offs16 : BitVec 16) (s : State) : Result :=
  .next (s.branchIf (s.reg rj != s.reg rd) offs16)

/-- BLT rj, rd, offs16 (R233): taken when rj is less as signed integers. -/
def execBlt (rj rd : RegNum) (offs16 : BitVec 16) (s : State) : Result :=
  .next (s.branchIf ((s.reg rj).slt (s.reg rd)) offs16)

/-- BGE rj, rd, offs16 (R234): taken when rj is not less as signed integers. -/
def execBge (rj rd : RegNum) (offs16 : BitVec 16) (s : State) : Result :=
  .next (s.branchIf (!(s.reg rj).slt (s.reg rd)) offs16)

/-- BLTU rj, rd, offs16 (R235): taken when rj is less as unsigned integers. -/
def execBltu (rj rd : RegNum) (offs16 : BitVec 16) (s : State) : Result :=
  .next (s.branchIf ((s.reg rj).ult (s.reg rd)) offs16)

/-- BGEU rj, rd, offs16 (R236): taken when rj is not less as unsigned integers. -/
def execBgeu (rj rd : RegNum) (offs16 : BitVec 16) (s : State) : Result :=
  .next (s.branchIf (!(s.reg rj).ult (s.reg rd)) offs16)

/-- B offs26 (R237): jump. -/
def execB (offs26 : BitVec 26) (s : State) : Result := .next (s.setPc (s.branchTarget offs26))

/-- BL offs26 (R238): jump, with the return address in r1 (R22). -/
def execBl (offs26 : BitVec 26) (s : State) : Result :=
  .next ((s.setReg 1#5 (s.pc + 4#32)).setPc (s.branchTarget offs26))

/-- JIRL rd, rj, offs16 (R239): jump to the old value of rj plus the offset, with the return address in rd (D39). -/
def execJirl (rd rj : RegNum) (offs16 : BitVec 16) (s : State) : Result :=
  .next ((s.setReg rd (s.pc + 4#32)).setPc (s.reg rj + scaled offs16))

end Sys2Proof.Machine
end

