-- ==== Sys2Proof/Machine/Flags.lean ====
section
/-! DEFINITION. FCSR0, its views, and how an arithmetic floating-point instruction uses it.

`spec/10_state.md` R36 (layout and views), R37 (rounding mode); `spec/46_fp_arith.md` R343 (Cause, Flags, FPE). -/

namespace Sys2Proof.Machine

/-- The defined bits of FCSR0, all software-writable: Enables, RM, Flags, Cause (R36). -/
def fcsrDefined : Word := ones 0 5 ||| ones 8 2 ||| ones 16 5 ||| ones 24 5

/-- The bits visible through FCSR number `n`; none for a number that does not exist (R36). -/
def fcsrView (n : BitVec 5) : Option Word :=
  match n.toNat with
  | 0 => some fcsrDefined
  | 1 => some (ones 0 5)
  | 2 => some (ones 16 5 ||| ones 24 5)
  | 3 => some (ones 8 2)
  | _ => none

/-- `FCSR0.Enables` (R36). -/
def State.enables (s : State) : Signals := field s.fcsr 0 5

/-- The rounding mode a 2-bit encoding names (R37). -/
def roundModeOf (rm : BitVec 2) : RoundMode :=
  match rm.toNat with
  | 0 => .nearestEven
  | 1 => .towardZero
  | 2 => .towardPositive
  | _ => .towardNegative

/-- `FCSR0.RM` (R37). -/
def State.rm (s : State) : RoundMode := roundModeOf (field s.fcsr 8 2)

/-- FCSR0 with Cause replaced by the signals (R343). -/
def fcsrWithCause (fcsr : Word) (sig : Signals) : Word := setField fcsr 24 sig

/-- FCSR0 with Cause replaced by the signals and Flags accumulating them (R343). -/
def fcsrAccrued (fcsr : Word) (sig : Signals) : Word :=
  setField (fcsrWithCause fcsr sig) 16 (field fcsr 16 5 ||| sig)

/-- The end of an arithmetic floating-point instruction that signals `sig` (R343, R468): Cause is replaced; an enabled
signal raises FPE with Flags and destination unwritten; otherwise Flags accumulate, the result is written and the
program counter advances. -/
def fpComplete (sig : Signals) (s : State) (write : State → State) : Result :=
  if sig &&& s.enables = 0#5 then .next (write (s.setFcsr (fcsrAccrued s.fcsr sig))).advance
  else raise .fpe (s.setFcsr (fcsrWithCause s.fcsr sig))

/-- `fcsr[n]` read: the bits view `n` shows, or a free word for a number that does not exist (R36, R398, U7, log 39). -/
def State.readFcsr (s : State) (n : BitVec 5) : Word :=
  match fcsrView n with
  | some mask => s.fcsr &&& mask
  | none => Config.freeWord s.draws

/-- `fcsr[n] <- v`: the bits view `n` shows, or, for a number that does not exist, free values in the defined fields
(R36, R397, U7, log 39). -/
def State.writeFcsr (s : State) (n : BitVec 5) (v : Word) : State :=
  match fcsrView n with
  | some mask => s.setFcsr ((s.fcsr &&& ~~~mask) ||| (v &&& mask))
  | none => (s.setFcsr (Config.freeWord s.draws &&& fcsrDefined)).drawn 1

/-- The free values an access of FCSR number `n` has drawn are counted (log 39). -/
def fcsrDraws (n : BitVec 5) : Nat := if (fcsrView n).isSome then 0 else 1

end Sys2Proof.Machine
end

