-- ==== Sys2Proof/Machine/FpArith.lean ====
section
/-! DEFINITION. Floating-point arithmetic: `spec/46_fp_arith.md` R300 to R346. -/

namespace Sys2Proof.Machine

/-- An arithmetic instruction with result format `f`: the enable check, then the end of R343 with the result written to
`f[fd]` (R300, R343). -/
def fpCompute (f : FpFormat) (fd : RegNum) (r : FpResult) (s : State) : Result :=
  whenFpEnabled s (fpComplete r.signals s (fun t => t.setFpResult f fd r.bits))

/-- A non-arithmetic instruction with a result of format `f`: the enable check, the result, FCSR0 untouched (R346, R409). -/
def fpCopy (f : FpFormat) (fd : RegNum) (bits : Nat) (s : State) : Result :=
  whenFpEnabled s (.next (s.setFpResult f fd bits).advance)

/-- The result with its sign bit inverted (R344). -/
def negated (f : FpFormat) (r : FpResult) : FpResult := { r with bits := fpNeg f r.bits }

/-- FADD.S fd, fj, fk (R301): the sum, single precision. -/
def execFaddS (fd fj fk : RegNum) (s : State) : Result :=
  fpCompute .single fd (fpAdd .single s.rm (s.fpOperand .single fj) (s.fpOperand .single fk)) s

/-- FADD.D fd, fj, fk (R302): the sum, double precision. -/
def execFaddD (fd fj fk : RegNum) (s : State) : Result :=
  fpCompute .double fd (fpAdd .double s.rm (s.fpOperand .double fj) (s.fpOperand .double fk)) s

/-- FSUB.S fd, fj, fk (R303): the difference, single precision. -/
def execFsubS (fd fj fk : RegNum) (s : State) : Result :=
  fpCompute .single fd (fpSub .single s.rm (s.fpOperand .single fj) (s.fpOperand .single fk)) s

/-- FSUB.D fd, fj, fk (R304): the difference, double precision. -/
def execFsubD (fd fj fk : RegNum) (s : State) : Result :=
  fpCompute .double fd (fpSub .double s.rm (s.fpOperand .double fj) (s.fpOperand .double fk)) s

/-- FMUL.S fd, fj, fk (R305): the product, single precision. -/
def execFmulS (fd fj fk : RegNum) (s : State) : Result :=
  fpCompute .single fd (fpMul .single s.rm (s.fpOperand .single fj) (s.fpOperand .single fk)) s

/-- FMUL.D fd, fj, fk (R306): the product, double precision. -/
def execFmulD (fd fj fk : RegNum) (s : State) : Result :=
  fpCompute .double fd (fpMul .double s.rm (s.fpOperand .double fj) (s.fpOperand .double fk)) s

/-- FDIV.S fd, fj, fk (R307): the quotient, single precision. -/
def execFdivS (fd fj fk : RegNum) (s : State) : Result :=
  fpCompute .single fd (fpDiv .single s.rm (s.fpOperand .single fj) (s.fpOperand .single fk)) s

/-- FDIV.D fd, fj, fk (R308): the quotient, double precision. -/
def execFdivD (fd fj fk : RegNum) (s : State) : Result :=
  fpCompute .double fd (fpDiv .double s.rm (s.fpOperand .double fj) (s.fpOperand .double fk)) s

/-- FMADD.S fd, fj, fk, fa (R309): fj times fk plus fa, rounded once, single precision. -/
def execFmaddS (fd fj fk fa : RegNum) (s : State) : Result :=
  fpCompute .single fd
    (fpFma .single s.rm (s.fpOperand .single fj) (s.fpOperand .single fk) (s.fpOperand .single fa)) s

/-- FMADD.D fd, fj, fk, fa (R310): fj times fk plus fa, rounded once, double precision. -/
def execFmaddD (fd fj fk fa : RegNum) (s : State) : Result :=
  fpCompute .double fd
    (fpFma .double s.rm (s.fpOperand .double fj) (s.fpOperand .double fk) (s.fpOperand .double fa)) s

/-- FMSUB.S fd, fj, fk, fa (R311): fj times fk minus fa, rounded once, single precision. -/
def execFmsubS (fd fj fk fa : RegNum) (s : State) : Result :=
  fpCompute .single fd
    (fpFma .single s.rm (s.fpOperand .single fj) (s.fpOperand .single fk) (fpNeg .single (s.fpOperand .single fa))) s

/-- FMSUB.D fd, fj, fk, fa (R312): fj times fk minus fa, rounded once, double precision. -/
def execFmsubD (fd fj fk fa : RegNum) (s : State) : Result :=
  fpCompute .double fd
    (fpFma .double s.rm (s.fpOperand .double fj) (s.fpOperand .double fk) (fpNeg .double (s.fpOperand .double fa))) s

/-- FNMADD.S fd, fj, fk, fa (R313): the negated fj times fk plus fa, rounded once, single precision. -/
def execFnmaddS (fd fj fk fa : RegNum) (s : State) : Result :=
  fpCompute .single fd
    (negated .single (fpFma .single s.rm (s.fpOperand .single fj) (s.fpOperand .single fk) (s.fpOperand .single fa))) s

/-- FNMADD.D fd, fj, fk, fa (R314): the negated fj times fk plus fa, rounded once, double precision. -/
def execFnmaddD (fd fj fk fa : RegNum) (s : State) : Result :=
  fpCompute .double fd
    (negated .double (fpFma .double s.rm (s.fpOperand .double fj) (s.fpOperand .double fk) (s.fpOperand .double fa))) s

/-- FNMSUB.S fd, fj, fk, fa (R315): the negated fj times fk minus fa, rounded once, single precision. -/
def execFnmsubS (fd fj fk fa : RegNum) (s : State) : Result :=
  fpCompute .single fd
    (negated .single (fpFma .single s.rm (s.fpOperand .single fj) (s.fpOperand .single fk) (fpNeg .single (s.fpOperand .single fa)))) s

/-- FNMSUB.D fd, fj, fk, fa (R316): the negated fj times fk minus fa, rounded once, double precision. -/
def execFnmsubD (fd fj fk fa : RegNum) (s : State) : Result :=
  fpCompute .double fd
    (negated .double (fpFma .double s.rm (s.fpOperand .double fj) (s.fpOperand .double fk) (fpNeg .double (s.fpOperand .double fa)))) s

/-- FMAX.S fd, fj, fk (R317): the larger, single precision. -/
def execFmaxS (fd fj fk : RegNum) (s : State) : Result :=
  fpCompute .single fd (fpMax .single (s.fpOperand .single fj) (s.fpOperand .single fk)) s

/-- FMAX.D fd, fj, fk (R318): the larger, double precision. -/
def execFmaxD (fd fj fk : RegNum) (s : State) : Result :=
  fpCompute .double fd (fpMax .double (s.fpOperand .double fj) (s.fpOperand .double fk)) s

/-- FMIN.S fd, fj, fk (R319): the smaller, single precision. -/
def execFminS (fd fj fk : RegNum) (s : State) : Result :=
  fpCompute .single fd (fpMin .single (s.fpOperand .single fj) (s.fpOperand .single fk)) s

/-- FMIN.D fd, fj, fk (R320): the smaller, double precision. -/
def execFminD (fd fj fk : RegNum) (s : State) : Result :=
  fpCompute .double fd (fpMin .double (s.fpOperand .double fj) (s.fpOperand .double fk)) s

/-- FMAXA.S fd, fj, fk (R321): the one larger in magnitude, single precision. -/
def execFmaxaS (fd fj fk : RegNum) (s : State) : Result :=
  fpCompute .single fd (fpMaxMag .single (s.fpOperand .single fj) (s.fpOperand .single fk)) s

/-- FMAXA.D fd, fj, fk (R322): the one larger in magnitude, double precision. -/
def execFmaxaD (fd fj fk : RegNum) (s : State) : Result :=
  fpCompute .double fd (fpMaxMag .double (s.fpOperand .double fj) (s.fpOperand .double fk)) s

/-- FMINA.S fd, fj, fk (R323): the one smaller in magnitude, single precision. -/
def execFminaS (fd fj fk : RegNum) (s : State) : Result :=
  fpCompute .single fd (fpMinMag .single (s.fpOperand .single fj) (s.fpOperand .single fk)) s

/-- FMINA.D fd, fj, fk (R324): the one smaller in magnitude, double precision. -/
def execFminaD (fd fj fk : RegNum) (s : State) : Result :=
  fpCompute .double fd (fpMinMag .double (s.fpOperand .double fj) (s.fpOperand .double fk)) s

/-- FABS.S fd, fj (R325): the sign bit cleared, single precision. -/
def execFabsS (fd fj : RegNum) (s : State) : Result := fpCopy .single fd (fpAbs .single (s.fpOperand .single fj)) s

/-- FABS.D fd, fj (R326): the sign bit cleared, double precision. -/
def execFabsD (fd fj : RegNum) (s : State) : Result := fpCopy .double fd (fpAbs .double (s.fpOperand .double fj)) s

/-- FNEG.S fd, fj (R327): the sign bit inverted, single precision. -/
def execFnegS (fd fj : RegNum) (s : State) : Result := fpCopy .single fd (fpNeg .single (s.fpOperand .single fj)) s

/-- FNEG.D fd, fj (R328): the sign bit inverted, double precision. -/
def execFnegD (fd fj : RegNum) (s : State) : Result := fpCopy .double fd (fpNeg .double (s.fpOperand .double fj)) s

/-- FSQRT.S fd, fj (R329): the square root, single precision. -/
def execFsqrtS (fd fj : RegNum) (s : State) : Result :=
  fpCompute .single fd (fpSqrt .single s.rm (s.fpOperand .single fj)) s

/-- FSQRT.D fd, fj (R330): the square root, double precision. -/
def execFsqrtD (fd fj : RegNum) (s : State) : Result :=
  fpCompute .double fd (fpSqrt .double s.rm (s.fpOperand .double fj)) s

/-- FRECIP.S fd, fj (R331): 1.0 divided by fj, single precision. -/
def execFrecipS (fd fj : RegNum) (s : State) : Result :=
  fpCompute .single fd (fpRecip .single s.rm (s.fpOperand .single fj)) s

/-- FRECIP.D fd, fj (R332): 1.0 divided by fj, double precision. -/
def execFrecipD (fd fj : RegNum) (s : State) : Result :=
  fpCompute .double fd (fpRecip .double s.rm (s.fpOperand .double fj)) s

/-- FRSQRT.S fd, fj (R333): 1.0 divided by the rounded square root, single precision. -/
def execFrsqrtS (fd fj : RegNum) (s : State) : Result :=
  fpCompute .single fd (fpRsqrt .single s.rm (s.fpOperand .single fj)) s

/-- FRSQRT.D fd, fj (R334): 1.0 divided by the rounded square root, double precision. -/
def execFrsqrtD (fd fj : RegNum) (s : State) : Result :=
  fpCompute .double fd (fpRsqrt .double s.rm (s.fpOperand .double fj)) s

/-- FCOPYSIGN.S fd, fj, fk (R335): fj with the sign of fk, single precision. -/
def execFcopysignS (fd fj fk : RegNum) (s : State) : Result :=
  fpCopy .single fd (fpCopySign .single (s.fpOperand .single fj) (s.fpOperand .single fk)) s

/-- FCOPYSIGN.D fd, fj, fk (R336): fj with the sign of fk, double precision. -/
def execFcopysignD (fd fj fk : RegNum) (s : State) : Result :=
  fpCopy .double fd (fpCopySign .double (s.fpOperand .double fj) (s.fpOperand .double fk)) s

/-- FCLASS.S fd, fj (R337): the class vector (R339), single precision. -/
def execFclassS (fd fj : RegNum) (s : State) : Result :=
  fpCopy .single fd (fpClass .single (s.fpOperand .single fj)) s

/-- FCLASS.D fd, fj (R338): the class vector (R339), double precision. -/
def execFclassD (fd fj : RegNum) (s : State) : Result :=
  fpCopy .double fd (fpClass .double (s.fpOperand .double fj)) s

end Sys2Proof.Machine
end

