-- ==== Sys2Proof/Machine/FpCmpCvt.lean ====
section
/-! DEFINITION. Floating-point comparison and conversion: `spec/47_fp_cmp_cvt.md` R360 to R378. -/

namespace Sys2Proof.Machine

/-- FCMP with a condition: signals first, then the flag (R360, R361, R362). -/
def fpCompareFlag (f : FpFormat) (cond : BitVec 5) (cd : FlagNum) (fj fk : RegNum) (s : State) : Result :=
  whenFpEnabled s
    (fpComplete (compareSignals f (cond.getLsbD 0) (s.fpOperand f fj) (s.fpOperand f fk)) s
      (fun t => t.setFlag cd (condHolds cond (fpCompare f (s.fpOperand f fj) (s.fpOperand f fk)))))

/-- FTINT with a rounding mode, from format `f`: the integer goes to bits 31:0, the high half is free (R368, C15). -/
def fpToIntReg (f : FpFormat) (rm : RoundMode) (fd fj : RegNum) (s : State) : Result :=
  fpCompute .single fd (fpToInt f rm (s.fpOperand f fj)) s

/-- FCMP.CAF.S cd, fj, fk (R361): cond 0x00. -/
def execFcmpCafS (cd : FlagNum) (fj fk : RegNum) (s : State) : Result := fpCompareFlag .single 0x00#5 cd fj fk s

/-- FCMP.CUN.S cd, fj, fk (R361): cond 0x08. -/
def execFcmpCunS (cd : FlagNum) (fj fk : RegNum) (s : State) : Result := fpCompareFlag .single 0x08#5 cd fj fk s

/-- FCMP.CEQ.S cd, fj, fk (R361): cond 0x04. -/
def execFcmpCeqS (cd : FlagNum) (fj fk : RegNum) (s : State) : Result := fpCompareFlag .single 0x04#5 cd fj fk s

/-- FCMP.CUEQ.S cd, fj, fk (R361): cond 0x0C. -/
def execFcmpCueqS (cd : FlagNum) (fj fk : RegNum) (s : State) : Result := fpCompareFlag .single 0x0C#5 cd fj fk s

/-- FCMP.CLT.S cd, fj, fk (R361): cond 0x02. -/
def execFcmpCltS (cd : FlagNum) (fj fk : RegNum) (s : State) : Result := fpCompareFlag .single 0x02#5 cd fj fk s

/-- FCMP.CULT.S cd, fj, fk (R361): cond 0x0A. -/
def execFcmpCultS (cd : FlagNum) (fj fk : RegNum) (s : State) : Result := fpCompareFlag .single 0x0A#5 cd fj fk s

/-- FCMP.CLE.S cd, fj, fk (R361): cond 0x06. -/
def execFcmpCleS (cd : FlagNum) (fj fk : RegNum) (s : State) : Result := fpCompareFlag .single 0x06#5 cd fj fk s

/-- FCMP.CULE.S cd, fj, fk (R361): cond 0x0E. -/
def execFcmpCuleS (cd : FlagNum) (fj fk : RegNum) (s : State) : Result := fpCompareFlag .single 0x0E#5 cd fj fk s

/-- FCMP.CNE.S cd, fj, fk (R361): cond 0x10. -/
def execFcmpCneS (cd : FlagNum) (fj fk : RegNum) (s : State) : Result := fpCompareFlag .single 0x10#5 cd fj fk s

/-- FCMP.COR.S cd, fj, fk (R361): cond 0x14. -/
def execFcmpCorS (cd : FlagNum) (fj fk : RegNum) (s : State) : Result := fpCompareFlag .single 0x14#5 cd fj fk s

/-- FCMP.CUNE.S cd, fj, fk (R361): cond 0x18. -/
def execFcmpCuneS (cd : FlagNum) (fj fk : RegNum) (s : State) : Result := fpCompareFlag .single 0x18#5 cd fj fk s

/-- FCMP.SAF.S cd, fj, fk (R361): cond 0x01. -/
def execFcmpSafS (cd : FlagNum) (fj fk : RegNum) (s : State) : Result := fpCompareFlag .single 0x01#5 cd fj fk s

/-- FCMP.SUN.S cd, fj, fk (R361): cond 0x09. -/
def execFcmpSunS (cd : FlagNum) (fj fk : RegNum) (s : State) : Result := fpCompareFlag .single 0x09#5 cd fj fk s

/-- FCMP.SEQ.S cd, fj, fk (R361): cond 0x05. -/
def execFcmpSeqS (cd : FlagNum) (fj fk : RegNum) (s : State) : Result := fpCompareFlag .single 0x05#5 cd fj fk s

/-- FCMP.SUEQ.S cd, fj, fk (R361): cond 0x0D. -/
def execFcmpSueqS (cd : FlagNum) (fj fk : RegNum) (s : State) : Result := fpCompareFlag .single 0x0D#5 cd fj fk s

/-- FCMP.SLT.S cd, fj, fk (R361): cond 0x03. -/
def execFcmpSltS (cd : FlagNum) (fj fk : RegNum) (s : State) : Result := fpCompareFlag .single 0x03#5 cd fj fk s

/-- FCMP.SULT.S cd, fj, fk (R361): cond 0x0B. -/
def execFcmpSultS (cd : FlagNum) (fj fk : RegNum) (s : State) : Result := fpCompareFlag .single 0x0B#5 cd fj fk s

/-- FCMP.SLE.S cd, fj, fk (R361): cond 0x07. -/
def execFcmpSleS (cd : FlagNum) (fj fk : RegNum) (s : State) : Result := fpCompareFlag .single 0x07#5 cd fj fk s

/-- FCMP.SULE.S cd, fj, fk (R361): cond 0x0F. -/
def execFcmpSuleS (cd : FlagNum) (fj fk : RegNum) (s : State) : Result := fpCompareFlag .single 0x0F#5 cd fj fk s

/-- FCMP.SNE.S cd, fj, fk (R361): cond 0x11. -/
def execFcmpSneS (cd : FlagNum) (fj fk : RegNum) (s : State) : Result := fpCompareFlag .single 0x11#5 cd fj fk s

/-- FCMP.SOR.S cd, fj, fk (R361): cond 0x15. -/
def execFcmpSorS (cd : FlagNum) (fj fk : RegNum) (s : State) : Result := fpCompareFlag .single 0x15#5 cd fj fk s

/-- FCMP.SUNE.S cd, fj, fk (R361): cond 0x19. -/
def execFcmpSuneS (cd : FlagNum) (fj fk : RegNum) (s : State) : Result := fpCompareFlag .single 0x19#5 cd fj fk s

/-- FCMP.CAF.D cd, fj, fk (R362): cond 0x00. -/
def execFcmpCafD (cd : FlagNum) (fj fk : RegNum) (s : State) : Result := fpCompareFlag .double 0x00#5 cd fj fk s

/-- FCMP.CUN.D cd, fj, fk (R362): cond 0x08. -/
def execFcmpCunD (cd : FlagNum) (fj fk : RegNum) (s : State) : Result := fpCompareFlag .double 0x08#5 cd fj fk s

/-- FCMP.CEQ.D cd, fj, fk (R362): cond 0x04. -/
def execFcmpCeqD (cd : FlagNum) (fj fk : RegNum) (s : State) : Result := fpCompareFlag .double 0x04#5 cd fj fk s

/-- FCMP.CUEQ.D cd, fj, fk (R362): cond 0x0C. -/
def execFcmpCueqD (cd : FlagNum) (fj fk : RegNum) (s : State) : Result := fpCompareFlag .double 0x0C#5 cd fj fk s

/-- FCMP.CLT.D cd, fj, fk (R362): cond 0x02. -/
def execFcmpCltD (cd : FlagNum) (fj fk : RegNum) (s : State) : Result := fpCompareFlag .double 0x02#5 cd fj fk s

/-- FCMP.CULT.D cd, fj, fk (R362): cond 0x0A. -/
def execFcmpCultD (cd : FlagNum) (fj fk : RegNum) (s : State) : Result := fpCompareFlag .double 0x0A#5 cd fj fk s

/-- FCMP.CLE.D cd, fj, fk (R362): cond 0x06. -/
def execFcmpCleD (cd : FlagNum) (fj fk : RegNum) (s : State) : Result := fpCompareFlag .double 0x06#5 cd fj fk s

/-- FCMP.CULE.D cd, fj, fk (R362): cond 0x0E. -/
def execFcmpCuleD (cd : FlagNum) (fj fk : RegNum) (s : State) : Result := fpCompareFlag .double 0x0E#5 cd fj fk s

/-- FCMP.CNE.D cd, fj, fk (R362): cond 0x10. -/
def execFcmpCneD (cd : FlagNum) (fj fk : RegNum) (s : State) : Result := fpCompareFlag .double 0x10#5 cd fj fk s

/-- FCMP.COR.D cd, fj, fk (R362): cond 0x14. -/
def execFcmpCorD (cd : FlagNum) (fj fk : RegNum) (s : State) : Result := fpCompareFlag .double 0x14#5 cd fj fk s

/-- FCMP.CUNE.D cd, fj, fk (R362): cond 0x18. -/
def execFcmpCuneD (cd : FlagNum) (fj fk : RegNum) (s : State) : Result := fpCompareFlag .double 0x18#5 cd fj fk s

/-- FCMP.SAF.D cd, fj, fk (R362): cond 0x01. -/
def execFcmpSafD (cd : FlagNum) (fj fk : RegNum) (s : State) : Result := fpCompareFlag .double 0x01#5 cd fj fk s

/-- FCMP.SUN.D cd, fj, fk (R362): cond 0x09. -/
def execFcmpSunD (cd : FlagNum) (fj fk : RegNum) (s : State) : Result := fpCompareFlag .double 0x09#5 cd fj fk s

/-- FCMP.SEQ.D cd, fj, fk (R362): cond 0x05. -/
def execFcmpSeqD (cd : FlagNum) (fj fk : RegNum) (s : State) : Result := fpCompareFlag .double 0x05#5 cd fj fk s

/-- FCMP.SUEQ.D cd, fj, fk (R362): cond 0x0D. -/
def execFcmpSueqD (cd : FlagNum) (fj fk : RegNum) (s : State) : Result := fpCompareFlag .double 0x0D#5 cd fj fk s

/-- FCMP.SLT.D cd, fj, fk (R362): cond 0x03. -/
def execFcmpSltD (cd : FlagNum) (fj fk : RegNum) (s : State) : Result := fpCompareFlag .double 0x03#5 cd fj fk s

/-- FCMP.SULT.D cd, fj, fk (R362): cond 0x0B. -/
def execFcmpSultD (cd : FlagNum) (fj fk : RegNum) (s : State) : Result := fpCompareFlag .double 0x0B#5 cd fj fk s

/-- FCMP.SLE.D cd, fj, fk (R362): cond 0x07. -/
def execFcmpSleD (cd : FlagNum) (fj fk : RegNum) (s : State) : Result := fpCompareFlag .double 0x07#5 cd fj fk s

/-- FCMP.SULE.D cd, fj, fk (R362): cond 0x0F. -/
def execFcmpSuleD (cd : FlagNum) (fj fk : RegNum) (s : State) : Result := fpCompareFlag .double 0x0F#5 cd fj fk s

/-- FCMP.SNE.D cd, fj, fk (R362): cond 0x11. -/
def execFcmpSneD (cd : FlagNum) (fj fk : RegNum) (s : State) : Result := fpCompareFlag .double 0x11#5 cd fj fk s

/-- FCMP.SOR.D cd, fj, fk (R362): cond 0x15. -/
def execFcmpSorD (cd : FlagNum) (fj fk : RegNum) (s : State) : Result := fpCompareFlag .double 0x15#5 cd fj fk s

/-- FCMP.SUNE.D cd, fj, fk (R362): cond 0x19. -/
def execFcmpSuneD (cd : FlagNum) (fj fk : RegNum) (s : State) : Result := fpCompareFlag .double 0x19#5 cd fj fk s

/-- FCVT.S.D fd, fj (R363): double to single precision, rounded. -/
def execFcvtSD (fd fj : RegNum) (s : State) : Result :=
  fpCompute .single fd (fpConvert .double .single s.rm (s.fpOperand .double fj)) s

/-- FCVT.D.S fd, fj (R364): single to double precision, exact. -/
def execFcvtDS (fd fj : RegNum) (s : State) : Result :=
  fpCompute .double fd (fpConvert .single .double s.rm (s.fpOperand .single fj)) s

/-- FFINT.S.W fd, fj (R365): the signed integer in bits 31:0 to single precision, rounded. -/
def execFfintSW (fd fj : RegNum) (s : State) : Result :=
  fpCompute .single fd (fpFromInt .single s.rm (s.freg fj).lo.toInt) s

/-- FFINT.D.W fd, fj (R366): the signed integer in bits 31:0 to double precision, exact. -/
def execFfintDW (fd fj : RegNum) (s : State) : Result :=
  fpCompute .double fd (fpFromInt .double s.rm (s.freg fj).lo.toInt) s

/-- FTINT.W.S fd, fj (R367): to a signed integer, single precision, by `FCSR.RM`. -/
def execFtintWS (fd fj : RegNum) (s : State) : Result := fpToIntReg .single s.rm fd fj s

/-- FTINT.W.D fd, fj (R368): to a signed integer, double precision, by `FCSR.RM`. -/
def execFtintWD (fd fj : RegNum) (s : State) : Result := fpToIntReg .double s.rm fd fj s

/-- FTINTRM.W.S fd, fj (R369): to a signed integer, single precision, in its own rounding mode. -/
def execFtintrmWS (fd fj : RegNum) (s : State) : Result := fpToIntReg .single .towardNegative fd fj s

/-- FTINTRM.W.D fd, fj (R370): to a signed integer, double precision, in its own rounding mode. -/
def execFtintrmWD (fd fj : RegNum) (s : State) : Result := fpToIntReg .double .towardNegative fd fj s

/-- FTINTRP.W.S fd, fj (R371): to a signed integer, single precision, in its own rounding mode. -/
def execFtintrpWS (fd fj : RegNum) (s : State) : Result := fpToIntReg .single .towardPositive fd fj s

/-- FTINTRP.W.D fd, fj (R372): to a signed integer, double precision, in its own rounding mode. -/
def execFtintrpWD (fd fj : RegNum) (s : State) : Result := fpToIntReg .double .towardPositive fd fj s

/-- FTINTRZ.W.S fd, fj (R373): to a signed integer, single precision, in its own rounding mode. -/
def execFtintrzWS (fd fj : RegNum) (s : State) : Result := fpToIntReg .single .towardZero fd fj s

/-- FTINTRZ.W.D fd, fj (R374): to a signed integer, double precision, in its own rounding mode. -/
def execFtintrzWD (fd fj : RegNum) (s : State) : Result := fpToIntReg .double .towardZero fd fj s

/-- FTINTRNE.W.S fd, fj (R375): to a signed integer, single precision, in its own rounding mode. -/
def execFtintrneWS (fd fj : RegNum) (s : State) : Result := fpToIntReg .single .nearestEven fd fj s

/-- FTINTRNE.W.D fd, fj (R376): to a signed integer, double precision, in its own rounding mode. -/
def execFtintrneWD (fd fj : RegNum) (s : State) : Result := fpToIntReg .double .nearestEven fd fj s

end Sys2Proof.Machine
end

