-- ==== Sys2Proof/Machine/FpMove.lean ====
section
/-! DEFINITION. Floating-point moves, branches, loads and stores: `spec/48_fp_move_branch_mem.md` R390 to R411. -/

namespace Sys2Proof.Machine

/-- FMOV.S fd, fj (R390): bits 31:0 copied, whatever they hold (log 47). -/
def execFmovS (fd fj : RegNum) (s : State) : Result := fpCopy .single fd (s.fpOperand .single fj) s

/-- FMOV.D fd, fj (R391): all 64 bits copied. -/
def execFmovD (fd fj : RegNum) (s : State) : Result := whenFpEnabled s (.next (s.setFreg fd (s.freg fj)).advance)

/-- FSEL fd, fj, fk, ca (R392): fj if the flag is 0, else fk, the whole register. -/
def execFsel (fd fj fk : RegNum) (ca : FlagNum) (s : State) : Result :=
  whenFpEnabled s (.next (s.setFreg fd (if s.flag ca then s.freg fk else s.freg fj)).advance)

/-- MOVGR2FR.W fd, rj (R393): rj to bits 31:0, the high half free. -/
def execMovgr2frW (fd rj : RegNum) (s : State) : Result :=
  whenFpEnabled s (.next (s.setFregLow fd (s.reg rj)).advance)

/-- MOVGR2FRH.W fd, rj (R394): rj to bits 63:32, the low half kept. -/
def execMovgr2frhW (fd rj : RegNum) (s : State) : Result :=
  whenFpEnabled s (.next (s.setFreg fd { hi := s.reg rj, lo := (s.freg fd).lo }).advance)

/-- MOVFR2GR.S rd, fj (R395): bits 31:0 to rd. -/
def execMovfr2grS (rd fj : RegNum) (s : State) : Result := whenFpEnabled s (produce rd (s.freg fj).lo s)

/-- MOVFRH2GR.S rd, fj (R396): bits 63:32 to rd. -/
def execMovfrh2grS (rd fj : RegNum) (s : State) : Result := whenFpEnabled s (produce rd (s.freg fj).hi s)

/-- MOVGR2FCSR fcsr, rj (R397): the fields view `fcsr` shows, from rj; raises nothing. -/
def execMovgr2fcsr (fcsr : BitVec 5) (rj : RegNum) (s : State) : Result :=
  whenFpEnabled s (.next (s.writeFcsr fcsr (s.reg rj)).advance)

/-- MOVFCSR2GR rd, fcsr (R398): view `fcsr` of FCSR0 to rd. -/
def execMovfcsr2gr (rd : RegNum) (fcsr : BitVec 5) (s : State) : Result :=
  whenFpEnabled s (.next ((s.setReg rd (s.readFcsr fcsr)).drawn (fcsrDraws fcsr)).advance)

/-- MOVFR2CF cd, fj (R399): bit 0 of fj to the flag. -/
def execMovfr2cf (cd : FlagNum) (fj : RegNum) (s : State) : Result :=
  whenFpEnabled s (.next (s.setFlag cd (bit (s.freg fj).lo 0)).advance)

/-- MOVCF2FR fd, cj (R400): the flag to bit 0 of fd, the other 63 bits 0 (C14). -/
def execMovcf2fr (fd : RegNum) (cj : FlagNum) (s : State) : Result :=
  whenFpEnabled s (.next (s.setFreg fd { hi := 0#32, lo := boolWord (s.flag cj) }).advance)

/-- MOVGR2CF cd, rj (R401): bit 0 of rj to the flag. -/
def execMovgr2cf (cd : FlagNum) (rj : RegNum) (s : State) : Result :=
  whenFpEnabled s (.next (s.setFlag cd (bit (s.reg rj) 0)).advance)

/-- MOVCF2GR rd, cj (R402): the flag to bit 0 of rd, the other bits 0 (C14). -/
def execMovcf2gr (rd : RegNum) (cj : FlagNum) (s : State) : Result :=
  whenFpEnabled s (produce rd (boolWord (s.flag cj)) s)

/-- BCEQZ cj, offs21 (R403): taken when the flag is 0. -/
def execBceqz (cj : FlagNum) (offs21 : BitVec 21) (s : State) : Result :=
  whenFpEnabled s (.next (s.branchIf (!s.flag cj) offs21))

/-- BCNEZ cj, offs21 (R404): taken when the flag is not 0. -/
def execBcnez (cj : FlagNum) (offs21 : BitVec 21) (s : State) : Result :=
  whenFpEnabled s (.next (s.branchIf (s.flag cj) offs21))

/-- FLD.S fd, rj, si12 (R405): a word to bits 31:0, the high half free. -/
def execFldS (fd rj : RegNum) (si12 : BitVec 12) (s : State) : Result :=
  whenFpEnabled s
    (reading 4 (s.address rj si12) s (fun v => (s.setFregLow fd (BitVec.ofNat 32 v)).advance))

/-- FLD.D fd, rj, si12 (R406): a doubleword. -/
def execFldD (fd rj : RegNum) (si12 : BitVec 12) (s : State) : Result :=
  whenFpEnabled s
    (reading 8 (s.address rj si12) s (fun v => (s.setFreg fd (FReg.ofDoubleBits v)).advance))

/-- FST.S fd, rj, si12 (R407): stores bits 31:0. -/
def execFstS (fd rj : RegNum) (si12 : BitVec 12) (s : State) : Result :=
  whenFpEnabled s (writing 4 (s.address rj si12) (s.freg fd).lo.toNat s)

/-- FST.D fd, rj, si12 (R408): stores all 64 bits. -/
def execFstD (fd rj : RegNum) (si12 : BitVec 12) (s : State) : Result :=
  whenFpEnabled s (writing 8 (s.address rj si12) (s.freg fd).doubleBits s)

end Sys2Proof.Machine
end

