-- ==== Sys2Proof/Machine/IntArith.lean ====
section
/-! DEFINITION. Integer arithmetic: `spec/40_int_arith.md` R170 to R188. -/

namespace Sys2Proof.Machine

/-- ADD.W rd, rj, rk (R171): the sum modulo 2^32. -/
def execAddW (rd rj rk : RegNum) (s : State) : Result := produce rd (s.reg rj + s.reg rk) s

/-- SUB.W rd, rj, rk (R172): the difference modulo 2^32. -/
def execSubW (rd rj rk : RegNum) (s : State) : Result := produce rd (s.reg rj - s.reg rk) s

/-- ADDI.W rd, rj, si12 (R173): the sum with the sign-extended immediate. -/
def execAddiW (rd rj : RegNum) (si12 : BitVec 12) (s : State) : Result := produce rd (s.reg rj + sext32 si12) s

/-- LU12I.W rd, si20 (R174): the immediate in bits 31:12, zeros below. -/
def execLu12iW (rd : RegNum) (si20 : BitVec 20) (s : State) : Result := produce rd (upperImmediate si20) s

/-- SLT rd, rj, rk (R175): 1 if less as signed integers, else 0. -/
def execSlt (rd rj rk : RegNum) (s : State) : Result := produce rd (boolWord ((s.reg rj).slt (s.reg rk))) s

/-- SLTU rd, rj, rk (R176): 1 if less as unsigned integers, else 0. -/
def execSltu (rd rj rk : RegNum) (s : State) : Result := produce rd (boolWord ((s.reg rj).ult (s.reg rk))) s

/-- SLTI rd, rj, si12 (R177): 1 if less than the sign-extended immediate as signed integers, else 0. -/
def execSlti (rd rj : RegNum) (si12 : BitVec 12) (s : State) : Result :=
  produce rd (boolWord ((s.reg rj).slt (sext32 si12))) s

/-- SLTUI rd, rj, si12 (R178): 1 if less than the sign-extended immediate as unsigned integers, else 0. -/
def execSltui (rd rj : RegNum) (si12 : BitVec 12) (s : State) : Result :=
  produce rd (boolWord ((s.reg rj).ult (sext32 si12))) s

/-- PCADDU12I rd, si20 (R179): the upper immediate added to the address of this instruction. -/
def execPcaddu12i (rd : RegNum) (si20 : BitVec 20) (s : State) : Result := produce rd (s.pc + upperImmediate si20) s

/-- MUL.W rd, rj, rk (R180): bits 31:0 of the product. -/
def execMulW (rd rj rk : RegNum) (s : State) : Result := produce rd (s.reg rj * s.reg rk) s

/-- Bits 63:32 of a 64-bit product (R181, R182). -/
def highWord (p : Dword) : Word := p.extractLsb' 32 32

/-- MULH.W rd, rj, rk (R181): bits 63:32 of the signed product. -/
def execMulhW (rd rj rk : RegNum) (s : State) : Result :=
  produce rd (highWord ((s.reg rj).signExtend 64 * (s.reg rk).signExtend 64)) s

/-- MULH.WU rd, rj, rk (R182): bits 63:32 of the unsigned product (C17). -/
def execMulhWu (rd rj rk : RegNum) (s : State) : Result :=
  produce rd (highWord ((s.reg rj).setWidth 64 * (s.reg rk).setWidth 64)) s

/-- A dividing instruction: with a zero divisor the result is free and nothing is raised (R188, U1, log 18). -/
def divided (op : DivOp) (rd : RegNum) (a b : Word) (q : Word) (s : State) : Result :=
  produce rd (if b = 0#32 then Config.divByZero op a else q) s

/-- DIV.W rd, rj, rk (R183): the signed quotient, rounded toward zero (R187). -/
def execDivW (rd rj rk : RegNum) (s : State) : Result :=
  divided .divW rd (s.reg rj) (s.reg rk) ((s.reg rj).sdiv (s.reg rk)) s

/-- DIV.WU rd, rj, rk (R184): the unsigned quotient. -/
def execDivWu (rd rj rk : RegNum) (s : State) : Result :=
  divided .divWu rd (s.reg rj) (s.reg rk) ((s.reg rj).udiv (s.reg rk)) s

/-- MOD.W rd, rj, rk (R185): the signed remainder, with the sign of the dividend (R187). -/
def execModW (rd rj rk : RegNum) (s : State) : Result :=
  divided .modW rd (s.reg rj) (s.reg rk) ((s.reg rj).srem (s.reg rk)) s

/-- MOD.WU rd, rj, rk (R186): the unsigned remainder. -/
def execModWu (rd rj rk : RegNum) (s : State) : Result :=
  divided .modWu rd (s.reg rj) (s.reg rk) ((s.reg rj).umod (s.reg rk)) s

end Sys2Proof.Machine
end

