-- ==== Sys2Proof/Machine/IntLogic.lean ====
section
/-! DEFINITION. Logic and shifts: `spec/41_int_logic_shift.md` R200 to R216. -/

namespace Sys2Proof.Machine

/-- AND rd, rj, rk (R201): bitwise and. -/
def execAnd (rd rj rk : RegNum) (s : State) : Result := produce rd (s.reg rj &&& s.reg rk) s

/-- OR rd, rj, rk (R202): bitwise or. -/
def execOr (rd rj rk : RegNum) (s : State) : Result := produce rd (s.reg rj ||| s.reg rk) s

/-- NOR rd, rj, rk (R203): bitwise not-or. -/
def execNor (rd rj rk : RegNum) (s : State) : Result := produce rd (~~~(s.reg rj ||| s.reg rk)) s

/-- XOR rd, rj, rk (R204): bitwise exclusive or. -/
def execXor (rd rj rk : RegNum) (s : State) : Result := produce rd (s.reg rj ^^^ s.reg rk) s

/-- ANDI rd, rj, ui12 (R205): bitwise and with the zero-extended immediate (C2). -/
def execAndi (rd rj : RegNum) (ui12 : BitVec 12) (s : State) : Result := produce rd (s.reg rj &&& zext32 ui12) s

/-- ORI rd, rj, ui12 (R206): bitwise or with the zero-extended immediate (C2). -/
def execOri (rd rj : RegNum) (ui12 : BitVec 12) (s : State) : Result := produce rd (s.reg rj ||| zext32 ui12) s

/-- XORI rd, rj, ui12 (R207): bitwise exclusive or with the zero-extended immediate (C2). -/
def execXori (rd rj : RegNum) (ui12 : BitVec 12) (s : State) : Result := produce rd (s.reg rj ^^^ zext32 ui12) s

/-- The shift amount of a register: its low five bits (R211 to R213). -/
def shiftAmount (v : Word) : BitVec 5 := field v 0 5

/-- `SLL(v, n)` (R210). -/
def shiftLeft (v : Word) (n : BitVec 5) : Word := v <<< n.toNat

/-- `SRL(v, n)` (R210). -/
def shiftRightLogical (v : Word) (n : BitVec 5) : Word := v >>> n.toNat

/-- `SRA(v, n)` (R210). -/
def shiftRightArith (v : Word) (n : BitVec 5) : Word := v.sshiftRight n.toNat

/-- SLL.W rd, rj, rk (R211): logical left shift. -/
def execSllW (rd rj rk : RegNum) (s : State) : Result := produce rd (shiftLeft (s.reg rj) (shiftAmount (s.reg rk))) s

/-- SRL.W rd, rj, rk (R212): logical right shift. -/
def execSrlW (rd rj rk : RegNum) (s : State) : Result :=
  produce rd (shiftRightLogical (s.reg rj) (shiftAmount (s.reg rk))) s

/-- SRA.W rd, rj, rk (R213): arithmetic right shift. -/
def execSraW (rd rj rk : RegNum) (s : State) : Result :=
  produce rd (shiftRightArith (s.reg rj) (shiftAmount (s.reg rk))) s

/-- SLLI.W rd, rj, ui5 (R214): logical left shift by the immediate. -/
def execSlliW (rd rj : RegNum) (ui5 : BitVec 5) (s : State) : Result := produce rd (shiftLeft (s.reg rj) ui5) s

/-- SRLI.W rd, rj, ui5 (R215): logical right shift by the immediate. -/
def execSrliW (rd rj : RegNum) (ui5 : BitVec 5) (s : State) : Result :=
  produce rd (shiftRightLogical (s.reg rj) ui5) s

/-- SRAI.W rd, rj, ui5 (R216): arithmetic right shift by the immediate. -/
def execSraiW (rd rj : RegNum) (ui5 : BitVec 5) (s : State) : Result := produce rd (shiftRightArith (s.reg rj) ui5) s

end Sys2Proof.Machine
end

