-- ==== Sys2Proof/Machine/LoadStore.lean ====
section
/-! DEFINITION. Loads, stores and prefetch: `spec/43_load_store.md` R250 to R259. -/

namespace Sys2Proof.Machine

/-- A load of `n` bytes into `rd`, the loaded number turned into a word by `ext` (R250). -/
def loadReg (n : Nat) (rd : RegNum) (va : Word) (ext : Nat → Word) (s : State) : Result :=
  reading n va s (fun v => (s.setReg rd (ext v)).advance)

/-- LD.B rd, rj, si12 (R251): a byte, sign-extended. -/
def execLdB (rd rj : RegNum) (si12 : BitVec 12) (s : State) : Result :=
  loadReg 1 rd (s.address rj si12) (fun v => sext32 (BitVec.ofNat 8 v)) s

/-- LD.H rd, rj, si12 (R252): a halfword, sign-extended. -/
def execLdH (rd rj : RegNum) (si12 : BitVec 12) (s : State) : Result :=
  loadReg 2 rd (s.address rj si12) (fun v => sext32 (BitVec.ofNat 16 v)) s

/-- LD.W rd, rj, si12 (R253): a word. -/
def execLdW (rd rj : RegNum) (si12 : BitVec 12) (s : State) : Result :=
  loadReg 4 rd (s.address rj si12) (fun v => BitVec.ofNat 32 v) s

/-- LD.BU rd, rj, si12 (R254): a byte, zero-extended. -/
def execLdBu (rd rj : RegNum) (si12 : BitVec 12) (s : State) : Result :=
  loadReg 1 rd (s.address rj si12) (fun v => zext32 (BitVec.ofNat 8 v)) s

/-- LD.HU rd, rj, si12 (R255): a halfword, zero-extended. -/
def execLdHu (rd rj : RegNum) (si12 : BitVec 12) (s : State) : Result :=
  loadReg 2 rd (s.address rj si12) (fun v => zext32 (BitVec.ofNat 16 v)) s

/-- ST.B rd, rj, si12 (R256): stores bits 7:0 of rd. -/
def execStB (rd rj : RegNum) (si12 : BitVec 12) (s : State) : Result :=
  writing 1 (s.address rj si12) (s.reg rd).toNat s

/-- ST.H rd, rj, si12 (R257): stores bits 15:0 of rd. -/
def execStH (rd rj : RegNum) (si12 : BitVec 12) (s : State) : Result :=
  writing 2 (s.address rj si12) (s.reg rd).toNat s

/-- ST.W rd, rj, si12 (R258): stores bits 31:0 of rd. -/
def execStW (rd rj : RegNum) (si12 : BitVec 12) (s : State) : Result :=
  writing 4 (s.address rj si12) (s.reg rd).toNat s

/-- PRELD hint, rj, si12 (R259): a prefetch changes nothing but the program counter and never raises, for every hint (log 32). -/
def execPreld (_hint : BitVec 5) (_rj : RegNum) (_si12 : BitVec 12) (s : State) : Result := .next s.advance

end Sys2Proof.Machine
end

