-- ==== Sys2Proof/Machine/Misc.lean ====
section
/-! DEFINITION. System call, breakpoint and counter reads: `spec/45_misc.md` R290 to R296. -/

namespace Sys2Proof.Machine

/-- SYSCALL code (R290): the system-call exception; `code` stays in the instruction word. -/
def execSyscall (_code : BitVec 15) (s : State) : Result := raise .sys s

/-- BREAK code (R291): the breakpoint exception (C9). -/
def execBrk (_code : BitVec 15) (s : State) : Result := raise .brk s

/-- RDCNTVL.W rd (R292): bits 31:0 of the Stable Counter. -/
def execRdcntvlW (rd : RegNum) (s : State) : Result := produce rd (s.counter.extractLsb' 0 32) s

/-- RDCNTVH.W rd (R293): bits 63:32 of the Stable Counter. -/
def execRdcntvhW (rd : RegNum) (s : State) : Result := produce rd (s.counter.extractLsb' 32 32) s

/-- RDCNTID rj (R294): the Counter ID, CSR.TID (R53, R75); the destination is rj. -/
def execRdcntid (rj : RegNum) (s : State) : Result := produce rj s.csr.tid s

end Sys2Proof.Machine
end

