-- ==== Sys2Proof/Machine/Priv.lean ====
section
/-! DEFINITION. Privileged instructions: `spec/49_privileged.md` R430 to R444. -/

namespace Sys2Proof.Machine

/-- CSRRD rd, csr (R431): the CSR to rd. -/
def execCsrrd (rd : RegNum) (csr : BitVec 14) (s : State) : Result := whenPrivileged s (produce rd (s.readCsr csr) s)

/-- `csr[n]` replaced by `v` while its old value goes to `rd` (R432, R433). -/
def swapCsr (rd : RegNum) (n : BitVec 14) (v : Word) (s : State) : State :=
  ((s.writeCsr n v).setReg rd (s.readCsr n)).advance

/-- `(old & ~m) | (v & m)` (R433). -/
def maskedWrite (old v m : Word) : Word := (old &&& ~~~m) ||| (v &&& m)

/-- CSRWR rd, csr (R432): rd and the CSR swapped. -/
def execCsrwr (rd : RegNum) (csr : BitVec 14) (s : State) : Result :=
  whenPrivileged s (.next (swapCsr rd csr (s.reg rd) s))

/-- CSRXCHG rd, rj, csr (R433): the bits of the CSR that rj selects replaced from rd; an empty mask changes nothing
and reads the CSR (log 42). -/
def execCsrxchg (rd rj : RegNum) (csr : BitVec 14) (s : State) : Result :=
  whenPrivileged s
    (if s.reg rj = 0#32 then produce rd (s.readCsr csr) s
     else .next (swapCsr rd csr (maskedWrite (s.readCsr csr) (s.reg rd) (s.reg rj)) s))

/-- The implementation has cache `c`: only 0, 1 and 2 are defined, and each may be absent (R6, R57, U18, U22). -/
def cachePresent (c : BitVec 3) : Bool := decide (c ≤ 2#3) && (Config.cacheGeom c).isSome

/-- A hit-type CACOP translates its address as a load does when the cache is present; on an absent cache it has no effect
and no exception but IPE (R435, U22). Which caches are present stays open (log 56). DESIGN CHOICE for absent caches,
log 30. -/
def cacopTranslates (code : BitVec 5) : Bool := code.extractLsb' 3 2 == 2#2 && cachePresent (code.extractLsb' 0 3)

/-- `CACOP3(c, va)`: the effect of CACOP with `code[4:3] = 3`, the implementation's own (R6, R435, U6). DESIGN CHOICE,
unsafe, log 30: none, the default. -/
def cacop3 (_c : BitVec 3) (_va : Word) (s : State) : State := s

/-- CACOP code, rj, si12 (R435): caches have no state, so only its exceptions are seen (D32), and what `CACOP3` does. -/
def execCacop (code : BitVec 5) (rj : RegNum) (si12 : BitVec 12) (s : State) : Result :=
  whenPrivileged s
    (if cacopTranslates code then
      match s.translate .load (s.address rj si12) with
      | .mapped _ _ => .next s.advance
      | .trapped e => raise e s
      | .refused r => .refused r
     else if code.extractLsb' 3 2 = 3#2 then .next (cacop3 (code.extractLsb' 0 3) (s.address rj si12) s).advance
     else .next s.advance)

/-- TLBSRCH (R437): the TLB searched with ASID and TLBEHI; more than one hit is undefined (U13, log 37). -/
def execTlbsrch (s : State) : Result :=
  whenPrivileged s
    (match s.tlbHits s.csr.vppn with
     | [] => .next (s.setCsr { s.csr with tlbidx := setBit s.csr.tlbidx 31 true }).advance
     | [i] => .next (s.setCsr { s.csr with tlbidx := tlbidxAfterHit s.csr.tlbidx i }).advance
     | _ :: _ :: _ => .refused .tlbMultipleHit)

/-- What TLBRD and TLBWR do with the entry at TLBIDX.Index; an index beyond the TLB is undefined (U5, log 3). -/
def atTlbIndex (s : State) (k : Fin Config.tlbEntries → Result) : Result :=
  if h : s.csr.index.toNat < Config.tlbEntries then k ⟨s.csr.index.toNat, h⟩ else .refused .tlbIndexRange

/-- TLBRD (R438): the entry at TLBIDX.Index to the TLB CSRs. -/
def execTlbrd (s : State) : Result :=
  whenPrivileged s (atTlbIndex s (fun i => .next (s.setCsr (s.csr.readTlbEntry (s.tlb.get i))).advance))

/-- The entry the TLB CSRs describe, written at an index (R439, R440). -/
def writeTlbEntry (i : Fin Config.tlbEntries) (s : State) : State := s.setTlb (s.tlb.set i.val s.csr.tlbEntry i.isLt)

/-- TLBWR (R439): the entry written at TLBIDX.Index. -/
def execTlbwr (s : State) : Result := whenPrivileged s (atTlbIndex s (fun i => .next (writeTlbEntry i s).advance))

/-- TLBFILL (R440): the entry written at an index of the hardware's choice (U11, log 27). -/
def execTlbfill (s : State) : Result :=
  whenPrivileged s (.next ((writeTlbEntry (Config.tlbFillVictim s.draws) s).drawn 1).advance)

/-- INVTLB op, rj, rk (R441): the selected entries invalidated; an operation not in the table raises INE. The upper bits of rj are
ignored (U12, log 34). -/
def execInvtlb (op : BitVec 5) (rj rk : RegNum) (s : State) : Result :=
  whenPrivileged s
    (if 6#5 < op then raise .ine s
     else .next (s.setTlb (invalidateTlb op (field (s.reg rj) 0 10) (s.reg rk) s.tlb)).advance)

/-- ERTN (R442): return from an exception. -/
def execErtn (s : State) : Result := whenPrivileged s (.next s.returnFromTrap)

/-- `IDLE_LEVELS`: what the level of IDLE does to the wait (R6, R443, U10). DESIGN CHOICE, unsafe, log 33: nothing, the
default. -/
def idleLevel (_level : BitVec 15) (s : State) : State := s

/-- IDLE level (R443): the core waits at the next instruction. -/
def execIdle (level : BitVec 15) (s : State) : Result :=
  whenPrivileged s (.next (idleLevel level (s.advance.setIdle true)))

end Sys2Proof.Machine
end

