-- ==== Sys2Proof/Machine/Cycle.lean ====
section
/-! DEFINITION. One core step, and the step of each agent.

`spec/00_scope.md` R7, R8; `spec/60_exceptions.md` R472, R481; `spec/49_privileged.md` R443. -/

namespace Sys2Proof.Machine

/-- The state after a fetch: a fetch that may have drawn which bytes it saw counts as a draw (R102, log 28). -/
def State.afterFetch (s : State) : State := if s.stale.isEmpty then s else s.drawn 1

/-- Decode a fetched word and run it; a reserved encoding raises INE (R8, R142). -/
def runWord (w : Word) (s : State) : Result :=
  match decodeWord w with
  | .ok i => exec i s
  | .rejected _ => raise .ine s

/-- Fetch, decode and execute (R8, R88). -/
def fetchAndRun (s : State) : Result :=
  match s.fetch with
  | .word w => runWord w s.afterFetch
  | .trapped e => raise e s.afterFetch
  | .refused r => .refused r

/-- A core that is not idle: take a pending enabled interrupt, else fetch and run (R472, R481). -/
def activeStep (s : State) : Result :=
  if s.csr.ie && s.csr.interruptPending then raise .int s else fetchAndRun s

/-- One core step (R8). An idle core waits until an interrupt is pending and locally enabled, then goes on (R443). -/
def coreStep (s : State) : Result :=
  if s.idle && !s.csr.interruptPending then .next s else activeStep (s.setIdle false)

/-- The step of an agent (R7). -/
def agentStep (m : AgentMove) (s : State) : Result :=
  match m with
  | .core => coreStep s
  | .counterTick => .next (counterTick s)
  | .externalStore pa bytes =>
    if pa.toNat + bytes.length ≤ 2 ^ Config.palen then .next (externalStore s pa bytes) else .fault .outsideAddressSpace
  | .interruptLine n level => .next (interruptLine s n level)
  | .ipiLine level => .next (ipiLine s level)
  | .spuriousClear => .next (s.setLlbit false)
  | .reset => .next (resetEvent s)

/-- The default schedule: one core step and one counter tick (R556, log 15). -/
def coreStepAndTick (s : State) : Result :=
  match coreStep s with
  | .next t => .next (counterTick t)
  | .fault r => .fault r
  | .refused r => .refused r

end Sys2Proof.Machine
end

