-- ==== Sys2Proof/Machine/Step.lean ====
section
/-! DEFINITION. The step of the machine, and placing an instruction where it is fetched next.

The schedule of the agents is free in the spec (`spec/00_scope.md` R7, `spec/70_reset_and_hazards.md` R556): `agenda`
says whose move is next; when it is empty the core steps and the counter ticks once (log 15). -/

namespace Sys2Proof.Machine

/-- One step: the next move of the agenda, or the default schedule. -/
def step (s : State) : Host.Outcome State Fault Refusal :=
  match s.agenda with
  | [] => coreStepAndTick s
  | m :: rest => agentStep m { s with agenda := rest }

/-- The physical address the next instruction is fetched from; the virtual one where no translation is found. -/
def State.fetchAddress (s : State) : PAddr :=
  match s.translate .fetch s.pc with
  | .mapped pa _ => pa
  | .trapped _ => s.pc.setWidth Config.palen
  | .refused _ => s.pc.setWidth Config.palen

/-- The state with an instruction word stored where the next instruction is fetched, the core's move next, and nothing
standing between: no wait, no pending enabled interrupt, no old bytes at that place (log 46). -/
def State.withFetchWord (s : State) (nbits w : Nat) : State :=
  { s with
    mem := s.mem.store s.fetchAddress.toNat 4 (w % 2 ^ nbits)
    stale := s.stale.filter (fun e => decide (e.addr < s.fetchAddress.toNat) || decide (s.fetchAddress.toNat + 4 ≤ e.addr))
    idle := false
    csr := if s.csr.interruptPending then { s.csr with crmd := setBit s.csr.crmd 2 false } else s.csr
    agenda := if s.agenda.isEmpty then [] else .core :: s.agenda }

end Sys2Proof.Machine
end

