-- ==== Sys2Proof/Safety.lean ====
section
/-! DEFINITION. The terms the statements use: the invariant of the machine, and what "nothing else changes" means for an
instruction that writes one general register, one floating-point register, one flag, or memory.

`spec/10_state.md` R21, R36, R46; `spec/60_exceptions.md` R470, R500; `spec/46_fp_arith.md` R343. -/

namespace Sys2Proof.Machine

/-! ### The invariant -/

/-- The reserved bits of every stored CSR are 0 (R46, R60 to R79). -/
def Csrs.reservedZero (c : Csrs) : Bool :=
  c.crmd &&& ~~~crmdWritable == 0#32 && c.prmd &&& ~~~prmdWritable == 0#32 && c.euen &&& ~~~euenWritable == 0#32 &&
    c.ecfg &&& ~~~ecfgWritable == 0#32 && c.estat &&& ~~~estatDefined == 0#32 &&
    c.eentry &&& ~~~entryWritable == 0#32 && c.tlbidx &&& ~~~tlbidxWritable == 0#32 &&
    c.tlbehi &&& ~~~tlbehiWritable == 0#32 && c.tlbelo0 &&& ~~~tlbeloWritable == 0#32 &&
    c.tlbelo1 &&& ~~~tlbeloWritable == 0#32 && c.pgdl &&& ~~~pgdWritable == 0#32 &&
    c.pgdh &&& ~~~pgdWritable == 0#32 && c.tlbrentry &&& ~~~entryWritable == 0#32 &&
    c.dmw0 &&& ~~~dmwWritable == 0#32 && c.dmw1 &&& ~~~dmwWritable == 0#32

/-- What every step keeps: memory is in its canonical form; register 0 is stored as 0; reserved bits of FCSR0 and of the
CSRs are 0; a running timer has `TCFG.En` set. -/
def State.inv (s : State) : Prop :=
  s.mem.wf = true ∧ s.gpr.get 0 = 0#32 ∧ s.fcsr &&& ~~~fcsrDefined = 0#32 ∧ s.csr.reservedZero = true ∧
    (s.timerRunning = true → bit s.csr.tcfg 0 = true)

/-! ### What is left alone -/

/-- Every byte of memory reads as before. -/
def SameMemory (s t : State) : Prop := ∀ a, t.mem.read a = s.mem.read a

/-- Every general register reads as before. -/
def SameGpr (s t : State) : Prop := ∀ r, t.reg r = s.reg r

/-- Every floating-point register holds what it did, both halves. -/
def SameFpr (s t : State) : Prop := ∀ r, t.freg r = s.freg r

/-- Every condition flag is as before. -/
def SameFlags (s t : State) : Prop := ∀ n, t.flag n = s.flag n

/-- The privileged state, the reservation, the counter, the timer, the wait state, and what the other agents will do are
as before. -/
def SameSystem (s t : State) : Prop :=
  t.csr = s.csr ∧ t.tlb = s.tlb ∧ t.llbit = s.llbit ∧ t.lladdr = s.lladdr ∧ t.counter = s.counter ∧
    t.timerRunning = s.timerRunning ∧ t.idle = s.idle ∧ t.agenda = s.agenda

/-! ### Effects -/

/-- `x[rd] <- v` (discarded for register 0) and the program counter at `pc`; nothing else changes. -/
structure GprEffect (s t : State) (rd : RegNum) (v pc : Word) : Prop where
  result : t.reg rd = if rd = 0#5 then 0#32 else v
  others : ∀ r, r ≠ rd → t.reg r = s.reg r
  pc : t.pc = pc
  fpr : SameFpr s t
  flags : SameFlags s t
  fcsr : t.fcsr = s.fcsr
  memory : SameMemory s t
  stale : t.stale = s.stale
  system : SameSystem s t

/-- The program counter at `pc`; nothing else changes. -/
structure PcEffect (s t : State) (pc : Word) : Prop where
  gpr : SameGpr s t
  pc : t.pc = pc
  fpr : SameFpr s t
  flags : SameFlags s t
  fcsr : t.fcsr = s.fcsr
  memory : SameMemory s t
  stale : t.stale = s.stale
  system : SameSystem s t

/-- `f[fd]` written: bits 31:0 get `lo`, bits 63:32 get `hi` where one is given and are otherwise unspecified; the next
instruction; FCSR0 becomes `fcsr`; nothing else changes. -/
structure FprEffect (s t : State) (fd : RegNum) (lo : Word) (hi : Option Word) (fcsr : Word) : Prop where
  low : (t.freg fd).lo = lo
  high : ∀ h, hi = some h → (t.freg fd).hi = h
  others : ∀ r, r ≠ fd → t.freg r = s.freg r
  pc : t.pc = s.pc + 4#32
  gpr : SameGpr s t
  flags : SameFlags s t
  fcsr : t.fcsr = fcsr
  memory : SameMemory s t
  stale : t.stale = s.stale
  system : SameSystem s t

/-- `c[cd]` written; the next instruction; FCSR0 becomes `fcsr`; nothing else changes. -/
structure FlagEffect (s t : State) (cd : FlagNum) (b : Bool) (fcsr : Word) : Prop where
  result : t.flag cd = b
  others : ∀ n, n ≠ cd → t.flag n = s.flag n
  pc : t.pc = s.pc + 4#32
  gpr : SameGpr s t
  fpr : SameFpr s t
  fcsr : t.fcsr = fcsr
  memory : SameMemory s t
  stale : t.stale = s.stale
  system : SameSystem s t

/-- The bytes of `v` stored from physical address `pa` up, least significant first; every other byte reads as before. -/
def Stores {n : Nat} (s t : State) (pa : PAddr) (v : BitVec (8 * n)) : Prop :=
  (∀ i, i < n → t.mem.read (pa.toNat + i) = v.extractLsb' (8 * i) 8) ∧
    ∀ a, a < pa.toNat ∨ pa.toNat + n ≤ a → t.mem.read a = s.mem.read a

/-- The values that a fetch of a physical byte may still return beside the byte in memory, the latest first (R102). -/
def oldValues (s : State) (a : Nat) : List Byte := (s.stale.filter (fun b => b.addr == a)).map (fun b => b.old)

/-- What a store of this core to the `n` bytes from `pa` up leaves for a later fetch: at each of them what it held before, and
all that could be returned before, until this core's IBAR; at every other byte nothing changes (R102, R276, R552). -/
structure StaleAfterStore (s t : State) (pa : PAddr) (n : Nat) : Prop where
  inside : ∀ i, i < n → oldValues t (pa.toNat + i) = s.mem.read (pa.toNat + i) :: oldValues s (pa.toNat + i)
  owned : ∀ b ∈ t.stale, pa.toNat ≤ b.addr → b.addr < pa.toNat + n → b.own = true
  outside : ∀ a, a < pa.toNat ∨ pa.toNat + n ≤ a →
    t.stale.filter (fun b => b.addr == a) = s.stale.filter (fun b => b.addr == a)

/-- A store by this core of `v` at `pa`; the next instruction; nothing else changes. -/
structure StoreEffect {n : Nat} (s t : State) (pa : PAddr) (v : BitVec (8 * n)) : Prop where
  memory : Stores s t pa v
  stale : StaleAfterStore s t pa n
  gpr : SameGpr s t
  pc : t.pc = s.pc + 4#32
  fpr : SameFpr s t
  flags : SameFlags s t
  fcsr : t.fcsr = s.fcsr
  system : SameSystem s t

/-- Only CSRs, the timer's hidden bit and the program counter may differ, and register `rd`. -/
structure CsrWriteFrame (s t : State) (rd : RegNum) : Prop where
  others : ∀ r, r ≠ rd → t.reg r = s.reg r
  pc : t.pc = s.pc + 4#32
  fpr : SameFpr s t
  flags : SameFlags s t
  fcsr : t.fcsr = s.fcsr
  memory : SameMemory s t
  stale : t.stale = s.stale
  tlb : t.tlb = s.tlb
  lladdr : t.lladdr = s.lladdr
  counter : t.counter = s.counter
  idle : t.idle = s.idle
  agenda : t.agenda = s.agenda

/-- Only the TLB CSRs, the TLB and the program counter may differ. -/
structure TlbFrame (s t : State) : Prop where
  gpr : SameGpr s t
  pc : t.pc = s.pc + 4#32
  fpr : SameFpr s t
  flags : SameFlags s t
  fcsr : t.fcsr = s.fcsr
  memory : SameMemory s t
  stale : t.stale = s.stale
  llbit : t.llbit = s.llbit
  lladdr : t.lladdr = s.lladdr
  counter : t.counter = s.counter
  timer : t.timerRunning = s.timerRunning
  idle : t.idle = s.idle
  agenda : t.agenda = s.agenda

/-! ### Where an access goes -/

/-- A load or store of `n` bytes at `va` is aligned, and translation gives RAM at physical address `pa` with memory
access type `mat` (R81, R82, R106). -/
def Reaches (s : State) (kind : Access) (n : Nat) (va : Word) (pa : PAddr) (mat : BitVec 2) : Prop :=
  va.toNat % n = 0 ∧ s.translate kind va = .mapped pa mat ∧ regionKindAt pa.toNat = some .ram

/-- `x[rj] + si12` as the integers they are, modulo 2^32 (R250). -/
def vaddr (s : State) (rj : RegNum) (si12 : BitVec 12) : Word := s.reg rj + BitVec.ofInt 32 si12.toInt

/-- `x[rj] + 4 * si14` as the integers they are, modulo 2^32 (R274). -/
def vaddr4 (s : State) (rj : RegNum) (si14 : BitVec 14) : Word := s.reg rj + BitVec.ofInt 32 (4 * si14.toInt)

/-- The kind, size and address of the one memory access of an instruction (R81, R82, R250, R274, R411). -/
def memoryAccess (s : State) (i : Instr) : Option (Access × Nat × Word) :=
  match i with
  | .ldB _ rj o | .ldBu _ rj o => some (.load, 1, vaddr s rj o)
  | .ldH _ rj o | .ldHu _ rj o => some (.load, 2, vaddr s rj o)
  | .ldW _ rj o | .fldS _ rj o => some (.load, 4, vaddr s rj o)
  | .fldD _ rj o => some (.load, 8, vaddr s rj o)
  | .stB _ rj o => some (.store, 1, vaddr s rj o)
  | .stH _ rj o => some (.store, 2, vaddr s rj o)
  | .stW _ rj o | .fstS _ rj o => some (.store, 4, vaddr s rj o)
  | .fstD _ rj o => some (.store, 8, vaddr s rj o)
  | .llW _ rj o => some (.load, 4, vaddr4 s rj o)
  | .scW _ rj o => some (.store, 4, vaddr4 s rj o)
  | _ => none

/-- The instruction is a floating-point one (R467). -/
def isFloatingPoint (i : Instr) : Bool := i.unit == .fp32 || i.unit == .fp64

/-! ### Floating-point results -/

/-- FCSR0 after an arithmetic instruction that signals `sig` and raises nothing: Cause is `sig`, Flags gain `sig`, every
other bit is as before (R343). -/
structure FcsrAfter (old new : Word) (sig : Signals) : Prop where
  cause : field new 24 5 = sig
  flags : field new 16 5 = field old 16 5 ||| sig
  rest : ∀ i, i < 32 → ¬(16 ≤ i ∧ i < 21) → ¬(24 ≤ i ∧ i < 29) → new.getLsbD i = old.getLsbD i

/-- FCSR0 at the trap of an enabled signal: Cause is `sig`, every other bit is as before (R343, R468). -/
structure FcsrTrapped (old new : Word) (sig : Signals) : Prop where
  cause : field new 24 5 = sig
  rest : ∀ i, i < 32 → ¬(24 ≤ i ∧ i < 29) → new.getLsbD i = old.getLsbD i

/-- The end of an arithmetic instruction with destination `f[fd]` of format `f` (R300 (d), R343). -/
def FpResultEffect (s t : State) (f : FpFormat) (fd : RegNum) (r : FpResult) : Prop :=
  ∃ fcsr, FcsrAfter s.fcsr fcsr r.signals ∧
    FprEffect s t fd (BitVec.ofNat 32 r.bits)
      (match f with | .single => none | .double => some (BitVec.ofNat 32 (r.bits / 2 ^ 32))) fcsr

/-- The rational number of a value that is finite. -/
def FpVal.toRat : FpVal → Option ℚ
  | .nan _ => none
  | .inf _ => none
  | .fin neg m e => some ((if neg then -1 else 1) * (m : ℚ) * (2 : ℚ) ^ e)

/-- The rational number a bit pattern of format `f` stands for; none for infinities and NaNs. -/
def valueOf (f : FpFormat) (x : Nat) : Option ℚ := (unpack f x).toRat

/-- The pattern is a quiet NaN (R341). -/
def isQuiet (f : FpFormat) (x : Nat) : Bool := isNan f x && !isSignalling f x

end Sys2Proof.Machine
end

