-- ==== Sys2Proof/Certificates/Slice0/Obligations.lean ====
section
/-! DEFINITION. The statements for the provers.

Each docstring names the rules of `spec/` the statement rests on. A statement about an instruction's result is at once the
statement that the instruction completes: its conclusion is that `exec` answers a next state, under hypotheses on the
state and the operands alone. -/

open Sys2Proof Sys2Proof.Machine

/-! ### Encoding -/

/-- Decoding the word of a well-formed instruction gives the instruction back, every operand at every value
(R123, R124, R125, R140, R147). -/
def Obligations.DecodeOfEncode : Prop := ∀ i : Instr, i.wellFormed = true → decodeWord (encode i) = .ok i

/-- A word that decodes is the word of the instruction it decodes to, so every bit of it is fixed or in an operand, and
the instruction is well-formed (R140, R143, R144). -/
def Obligations.EncodeOfDecode : Prop :=
  ∀ (w : Word) (i : Instr), decodeWord w = .ok i → encode i = w ∧ i.wellFormed = true

/-- At most one row of the opcode table matches a word: no two rows at different places both accept it (R140). -/
def Obligations.AtMostOneRowMatches : Prop := opcodeRows.Pairwise (fun a b => ∀ w, ¬(a.accepts w = true ∧ b.accepts w = true))

/-- Words of R147 with the operands written into their fields, one or more of every family, decode to the instructions
they stand for. -/
def Obligations.SampleWordsDecode : Prop :=
  decodeWord 0x00101486#32 = .ok (.addW 6#5 4#5 5#5) ∧
  decodeWord 0x02BFFC85#32 = .ok (.addiW 5#5 4#5 0xFFF#12) ∧
  decodeWord 0x037FFC85#32 = .ok (.andi 5#5 4#5 0xFFF#12) ∧
  decodeWord 0x5FFFF4A7#32 = .ok (.bne 5#5 7#5 0xFFFD#16) ∧
  decodeWord 0x54000C00#32 = .ok (.bl 3#26) ∧
  decodeWord 0x28800485#32 = .ok (.ldW 5#5 4#5 1#12) ∧
  decodeWord 0x20FFFC85#32 = .ok (.llW 5#5 4#5 0x3FFF#14) ∧
  decodeWord 0x002B0011#32 = .ok (.syscall 0x11#15) ∧
  decodeWord 0x000060C0#32 = .ok (.rdcntid 6#5) ∧
  decodeWord 0x08118820#32 = .ok (.fmaddS 0#5 1#5 2#5 3#5) ∧
  decodeWord 0x0C130827#32 = .ok (.fcmpCleS 7#3 1#5 2#5) ∧
  decodeWord 0x4BFFF53F#32 = .ok (.bcnez 1#3 0x1FFFFD#21) ∧
  decodeWord 0x2BFFE081#32 = .ok (.fstD 1#5 4#5 0xFF8#12) ∧
  decodeWord 0x0400018C#32 = .ok (.csrxchg 12#5 12#5 0#14) ∧
  decodeWord 0x064998A5#32 = .ok (.invtlb 5#5 5#5 6#5)

/-- Every word that matches no row of the opcode table raises INE and does nothing else: what follows is trap entry from the
state as it was (R142, R466). -/
def Obligations.ReservedWordRaisesIne : Prop :=
  ∀ (w : Word) (s : State), (∀ r ∈ opcodeRows, r.accepts w = false) → runWord w s = .next (s.takeTrap .ine)

/-! ### The step -/

/-- A core that is not waiting and has no enabled interrupt pending, whose fetch gives a word that decodes to `i`, runs
`i`: alone when the agenda says it is the core's move, and followed by one counter tick when the agenda is empty. Before
`exec` stands only the count of a draw, when a fetch could still see overwritten bytes (R8, R140, log 15, log 28). -/
def Obligations.StepRunsDecodedInstruction : Prop :=
  ∀ (s : State) (w : Word) (i : Instr), s.idle = false → (s.csr.ie && s.csr.interruptPending) = false →
    s.fetch = .word w → decodeWord w = .ok i →
    (∀ rest, s.agenda = .core :: rest → step s = exec i { s with agenda := rest }.afterFetch) ∧
    (s.agenda = [] → ∀ t, exec i s.afterFetch = .next t → step s = .next (counterTick t)) ∧
    (s.stale = [] → s.afterFetch = s)

/-- Fetching (R88, R85, R102): a `pc` that is not a multiple of 4 gives ADEF; an exception of the translation is the
fetch's; else the fetch gives the four bytes at the translated address, the first least significant, each the byte in memory
or one that it held before and that no IBAR has ended; where there is none such, the bytes in memory (log 28;
that bytes another agent has overwritten are among them is the model's choice, log 29). -/
def Obligations.FetchReadsMemory : Prop :=
  ∀ s : State,
    (s.pc.toNat % 4 ≠ 0 → s.fetch = .trapped (.adef s.pc)) ∧
    (∀ e, s.pc.toNat % 4 = 0 → s.translate .fetch s.pc = .trapped e → s.fetch = .trapped e) ∧
    (∀ pa mat, Reaches s .fetch 4 s.pc pa mat →
      (∃ b0 b1 b2 b3, s.fetch = .word (b3 ++ b2 ++ b1 ++ b0) ∧
        b0 ∈ s.mem.read pa.toNat :: oldValues s pa.toNat ∧
        b1 ∈ s.mem.read (pa.toNat + 1) :: oldValues s (pa.toNat + 1) ∧
        b2 ∈ s.mem.read (pa.toNat + 2) :: oldValues s (pa.toNat + 2) ∧
        b3 ∈ s.mem.read (pa.toNat + 3) :: oldValues s (pa.toNat + 3)) ∧
      ((∀ b ∈ s.stale, b.addr < pa.toNat ∨ pa.toNat + 4 ≤ b.addr) →
        s.fetch = .word (s.mem.read (pa.toNat + 3) ++ s.mem.read (pa.toNat + 2) ++ s.mem.read (pa.toNat + 1) ++
          s.mem.read pa.toNat)))

/-! ### The invariant -/

/-- Every step keeps the invariant: canonical memory, register 0 stored as 0, reserved bits of FCSR0 and of the CSRs 0,
a running timer enabled (R21, R36, R46, R500). -/
def Obligations.StepKeepsInvariant : Prop := ∀ s t : State, s.inv → step s = .next t → t.inv

/-- The state after reset has the invariant, with the values the model chose for what R531 leaves unspecified (log 9 to
13). -/
def Obligations.ResetHasInvariant : Prop := State.reset.inv

/-- What R531 gives for the state after reset, at the default `RESET_PC` and core number (log 4, log 5): pc, CRMD 8, floating
point and all interrupts disabled, the timer off, KLO 0, both windows disabled, the counter 0, not waiting. -/
structure AfterReset (t : State) : Prop where
  pc : t.pc = Config.resetPc
  r0 : t.reg 0#5 = 0#32
  counter : t.counter = 0#64
  idle : t.idle = false
  crmd : t.csr.crmd = 8#32
  fpe : t.csr.fpe = false
  lie : t.csr.lie = 0#13
  software : field t.csr.estat 0 2 = 0#2
  timer : t.csr.estat.getLsbD 11 = false ∧ t.csr.tcfg.getLsbD 0 = false ∧ t.timerRunning = false
  klo : t.csr.klo = false
  dmw0 : t.csr.dmw0.getLsbD 0 = false ∧ t.csr.dmw0.getLsbD 3 = false
  dmw1 : t.csr.dmw1.getLsbD 0 = false ∧ t.csr.dmw1.getLsbD 3 = false
  ticlr : t.readCsr 0x44#14 = 0#32
  cpuid : t.readCsr 0x20#14 = BitVec.ofNat 32 Config.coreId.val

/-- Reset, as the first state and as an event (R531, R533): at any time it leaves what R531 gives, with the interrupt lines as
they are, ERA not written and nothing to be fetched but memory; memory and what the agents will do are kept (log 17). -/
def Obligations.ResetValues : Prop :=
  AfterReset State.reset ∧
  ∀ s : State, ∃ t, agentStep .reset s = .next t ∧ AfterReset t ∧ t.csr.era = s.csr.era ∧
    (∀ i, (2 ≤ i ∧ i < 10) ∨ i = 12 → t.csr.estat.getLsbD i = s.csr.estat.getLsbD i) ∧
    t.stale = [] ∧ t.mem = s.mem ∧ t.agenda = s.agenda

/-! ### The whole machine -/

/-- At any privilege level but 0, no instruction changes a CSR or the TLB, except by taking an exception, which changes
the CSRs as trap entry does and goes to the handler (R430, R469, R470). -/
def Obligations.UserModeKeepsSystemState : Prop :=
  ∀ (i : Instr) (s t : State), s.csr.plv ≠ 0#2 → exec i s = .next t →
    t.tlb = s.tlb ∧ t.timerRunning = s.timerRunning ∧ t.idle = s.idle ∧ t.counter = s.counter ∧
      (t.csr = s.csr ∨ ∃ e, t.csr = s.csr.enter e s.pc ∧ t.pc = s.csr.entry e)

/-- With the memory map of `Config` (log 7), every instruction completes or takes an exception, in every state with
CRMD.DA different from CRMD.PG and at most one TLB entry matching any lookup: nothing is refused and nothing faults
(R42, R170, R188, R471). The two conditions are U13 and U14. That nothing else is refused is also the model's choice: LL.W
and SC.W run on memory that is not cached, where U4 says to refuse (log 26); MOVGR2FCSR runs for numbers 4 to 31, where U7
says to refuse (log 39); every Index names a TLB entry, so that U5 cannot arise (log 3); and the model goes on where U12, U22,
U23 and U26 let a proof refuse (logs 34, 30, 48, 35) and for page sizes and access types the spec leaves open (logs 38, 54). -/
def Obligations.EveryInstructionGoesOn : Prop :=
  ∀ (i : Instr) (s : State), s.csr.da ≠ s.csr.pg → (∀ vppn, (s.tlbHits vppn).length ≤ 1) → ∃ t, exec i s = .next t

/-! ### Taking an exception and returning -/

/-- Trap entry for every exception other than TLBR, and for interrupts, and the exception codes and sub-codes (R490, R460). -/
def Obligations.TrapEntry : Prop :=
  (∀ (s : State) (e : Trap), e.isRefill = false →
    let t := s.takeTrap e
    field t.csr.prmd 0 3 = field s.csr.crmd 0 3 ∧ field t.csr.prmd 3 29 = field s.csr.prmd 3 29 ∧
    field t.csr.crmd 0 3 = 0#3 ∧ field t.csr.crmd 3 29 = field s.csr.crmd 3 29 ∧
    t.csr.era = s.pc ∧ t.csr.ecode = e.ecode ∧ field t.csr.estat 22 9 = e.esubcode ∧
    t.csr.pending = s.csr.pending ∧
    (∀ va, e ∈ [.adef va, .adem va, .ale va, .pil va, .pis va, .pif va, .pme va, .ppi va] → t.csr.badv = va) ∧
    (e ∈ [.int, .sys, .brk, .ine, .ipe, .fpd, .fpe] → t.csr.badv = s.csr.badv) ∧
    (∀ va, e ∈ [.pil va, .pis va, .pif va, .pme va, .ppi va] → t.csr.vppn = field va 13 19) ∧
    (∀ va, e ∈ [.int, .sys, .brk, .ine, .ipe, .fpd, .fpe, .adef va, .adem va, .ale va] → t.csr.tlbehi = s.csr.tlbehi) ∧
    field t.pc 6 26 = field s.csr.eentry 6 26 ∧ field t.pc 0 6 = 0#6 ∧
    t = { s with
      pc := t.pc
      csr := { s.csr with
        prmd := t.csr.prmd, crmd := t.csr.crmd, era := t.csr.era, estat := t.csr.estat, badv := t.csr.badv,
        tlbehi := t.csr.tlbehi } }) ∧
  ∀ va : Word,
    [Trap.int, .pil va, .pis va, .pif va, .pme va, .ppi va, .adef va, .adem va, .ale va, .sys, .brk, .ine, .ipe, .fpd,
      .fpe, .tlbr va].map (fun e => (e.ecode.toNat, e.esubcode.toNat)) =
    [(0x00, 0), (0x01, 0), (0x02, 0), (0x03, 0), (0x04, 0), (0x07, 0), (0x08, 0), (0x08, 1), (0x09, 0), (0x0B, 0),
      (0x0C, 0), (0x0D, 0), (0x0E, 0), (0x0F, 0), (0x12, 0), (0x3F, 0)]

/-- Trap entry for the TLB refill exception: as for the others with code 0x3F, and direct translation, at TLBRENTRY
(R491). -/
def Obligations.RefillEntry : Prop :=
  ∀ (s : State) (va : Word),
    let t := s.takeTrap (.tlbr va)
    field t.csr.prmd 0 3 = field s.csr.crmd 0 3 ∧ field t.csr.prmd 3 29 = field s.csr.prmd 3 29 ∧
    t.csr.plv = 0#2 ∧ t.csr.ie = false ∧ t.csr.da = true ∧ t.csr.pg = false ∧
    field t.csr.crmd 5 27 = field s.csr.crmd 5 27 ∧
    t.csr.era = s.pc ∧ t.csr.ecode = 0x3F#6 ∧ field t.csr.estat 22 9 = 0#9 ∧ t.csr.pending = s.csr.pending ∧
    t.csr.badv = va ∧ t.csr.vppn = field va 13 19 ∧ field t.csr.tlbehi 0 13 = field s.csr.tlbehi 0 13 ∧
    field t.pc 6 26 = field s.csr.tlbrentry 6 26 ∧ field t.pc 0 6 = 0#6 ∧
    t = { s with
      pc := t.pc
      csr := { s.csr with
        prmd := t.csr.prmd, crmd := t.csr.crmd, era := t.csr.era, estat := t.csr.estat, badv := t.csr.badv,
        tlbehi := t.csr.tlbehi } }

/-- ERTN at PLV0 (R442, R495). -/
def Obligations.Ertn : Prop :=
  ∀ s : State, s.csr.plv = 0#2 → ∃ t, exec .ertn s = .next t ∧
    t.pc = s.csr.era ∧ t.csr.plv = field s.csr.prmd 0 2 ∧ t.csr.ie = bit s.csr.prmd 2 ∧
    (s.csr.ecode = 0x3F#6 → t.csr.da = false ∧ t.csr.pg = true) ∧
    (s.csr.ecode ≠ 0x3F#6 → t.csr.da = s.csr.da ∧ t.csr.pg = s.csr.pg) ∧
    field t.csr.crmd 5 27 = field s.csr.crmd 5 27 ∧
    t.csr.klo = false ∧ t.llbit = (if s.csr.klo then s.llbit else false) ∧
    t = { s with pc := t.pc, llbit := t.llbit, csr := { s.csr with crmd := t.csr.crmd, klo := t.csr.klo } }

/-- SYSCALL and BREAK raise SYS and BRK always, at every privilege level and with every code; ERA is the address of the
SYSCALL or BREAK (R463). -/
def Obligations.SyscallAndBreak : Prop :=
  ∀ (code : BitVec 15) (s : State),
    exec (.syscall code) s = .next (s.takeTrap .sys) ∧ exec (.brk code) s = .next (s.takeTrap .brk) ∧
    (s.takeTrap .sys).csr.era = s.pc ∧ (s.takeTrap .brk).csr.era = s.pc

/-- Every privileged instruction at a privilege level other than 0 takes IPE and does nothing else; the eleven privileged
instructions are exactly these (R430, R469). -/
def Obligations.PrivilegedInUserModeTakesIpe : Prop :=
  (∀ (i : Instr) (s : State), i.unit = .privileged → s.csr.plv ≠ 0#2 → exec i s = .next (s.takeTrap .ipe)) ∧
  ∀ i : Instr, i.unit = .privileged ↔
    (∃ rd n, i = .csrrd rd n) ∨ (∃ rd n, i = .csrwr rd n) ∨ (∃ rd rj n, i = .csrxchg rd rj n) ∨
    (∃ c rj o, i = .cacop c rj o) ∨ i = .tlbsrch ∨ i = .tlbrd ∨ i = .tlbwr ∨ i = .tlbfill ∨
    (∃ op rj rk, i = .invtlb op rj rk) ∨ i = .ertn ∨ ∃ l, i = .idle l

/-- Every floating-point instruction while EUEN.FPE is 0 takes FPD and does nothing else (R467). -/
def Obligations.FpDisabledTakesFpd : Prop :=
  ∀ (i : Instr) (s : State), isFloatingPoint i = true → s.csr.fpe = false → exec i s = .next (s.takeTrap .fpd)

/-- Every load or store at a misaligned address takes ALE, before translation; at an aligned address whose translation
gives an exception it takes that one; floating-point ones when the unit is enabled (R81, R82, R84, R462, R472). -/
def Obligations.MemoryAccessTraps : Prop :=
  ∀ (i : Instr) (s : State) (kind : Access) (n : Nat) (va : Word), memoryAccess s i = some (kind, n, va) →
    (isFloatingPoint i = true → s.csr.fpe = true) →
    (va.toNat % n ≠ 0 → exec i s = .next (s.takeTrap (.ale va))) ∧
    (∀ e, va.toNat % n = 0 → s.translate kind va = .trapped e → exec i s = .next (s.takeTrap e))

/-- A step is the move that the agenda names next (R7, log 15). The interrupt lines set and clear their bit of ESTAT.IS and
nothing else (R480). The start of a core step: an interrupt that
is pending, locally and globally enabled is taken before the fetch, with ERA the instruction not executed and the pending
bits unchanged; an idle core with none locally enabled does nothing; an idle core with one pending and interrupts globally
disabled leaves the wait and runs on where it stopped (R481, R443). -/
def Obligations.InterruptsAndIdle : Prop :=
  ∀ s : State,
    (∀ m rest, s.agenda = m :: rest → step s = agentStep m { s with agenda := rest }) ∧
    (∀ (n : BitVec 3) (level : Bool), ∃ t, agentStep (.interruptLine n level) s = .next t ∧
      (∀ i, t.csr.estat.getLsbD i = if i = 2 + n.toNat then level else s.csr.estat.getLsbD i) ∧
      t = { s with csr := { s.csr with estat := t.csr.estat } }) ∧
    (∀ level : Bool, ∃ t, agentStep (.ipiLine level) s = .next t ∧
      (∀ i, t.csr.estat.getLsbD i = if i = 12 then level else s.csr.estat.getLsbD i) ∧
      t = { s with csr := { s.csr with estat := t.csr.estat } }) ∧
    (s.csr.ie = true → s.csr.pending &&& s.csr.lie ≠ 0#13 →
      ∃ t, coreStep s = .next t ∧ t = (s.setIdle false).takeTrap .int ∧ t.csr.era = s.pc ∧ t.csr.ecode = 0#6 ∧
        field t.csr.estat 22 9 = 0#9 ∧ t.csr.pending = s.csr.pending ∧ t.pc = entryAddress s.csr.eentry ∧
        t.idle = false) ∧
    (s.idle = true → s.csr.pending &&& s.csr.lie = 0#13 → coreStep s = .next s) ∧
    (s.idle = true → s.csr.pending &&& s.csr.lie ≠ 0#13 → s.csr.ie = false →
      coreStep s = fetchAndRun (s.setIdle false))

/-! ### Integer instructions -/

/-- Sums, differences and upper immediates, modulo 2^32; comparisons, signed and unsigned, give 1 or 0 (R170 to R179). -/
def Obligations.AddSubCompareResults : Prop :=
  ∀ (rd rj rk : RegNum) (si12 : BitVec 12) (si20 : BitVec 20) (s : State),
    (∃ t, exec (.addW rd rj rk) s = .next t ∧
      GprEffect s t rd (BitVec.ofInt 32 ((s.reg rj).toInt + (s.reg rk).toInt)) (s.pc + 4#32)) ∧
    (∃ t, exec (.subW rd rj rk) s = .next t ∧
      GprEffect s t rd (BitVec.ofInt 32 ((s.reg rj).toInt - (s.reg rk).toInt)) (s.pc + 4#32)) ∧
    (∃ t, exec (.addiW rd rj si12) s = .next t ∧
      GprEffect s t rd (BitVec.ofInt 32 ((s.reg rj).toInt + si12.toInt)) (s.pc + 4#32)) ∧
    (∃ t, exec (.lu12iW rd si20) s = .next t ∧
      GprEffect s t rd (BitVec.ofNat 32 (si20.toNat * 4096)) (s.pc + 4#32)) ∧
    (∃ t, exec (.pcaddu12i rd si20) s = .next t ∧
      GprEffect s t rd (BitVec.ofNat 32 (s.pc.toNat + si20.toNat * 4096)) (s.pc + 4#32)) ∧
    (∃ t, exec (.slt rd rj rk) s = .next t ∧
      GprEffect s t rd (if (s.reg rj).toInt < (s.reg rk).toInt then 1#32 else 0#32) (s.pc + 4#32)) ∧
    (∃ t, exec (.sltu rd rj rk) s = .next t ∧
      GprEffect s t rd (if (s.reg rj).toNat < (s.reg rk).toNat then 1#32 else 0#32) (s.pc + 4#32)) ∧
    (∃ t, exec (.slti rd rj si12) s = .next t ∧
      GprEffect s t rd (if (s.reg rj).toInt < si12.toInt then 1#32 else 0#32) (s.pc + 4#32)) ∧
    (∃ t, exec (.sltui rd rj si12) s = .next t ∧
      GprEffect s t rd (if (s.reg rj).toNat < (BitVec.ofInt 32 si12.toInt).toNat then 1#32 else 0#32) (s.pc + 4#32))

/-- Products: bits 31:0, and bits 63:32 of the exact signed and unsigned product (R180, R181, R182). -/
def Obligations.MultiplyResults : Prop :=
  ∀ (rd rj rk : RegNum) (s : State),
    (∃ t, exec (.mulW rd rj rk) s = .next t ∧
      GprEffect s t rd (BitVec.ofInt 32 ((s.reg rj).toInt * (s.reg rk).toInt)) (s.pc + 4#32)) ∧
    (∃ t, exec (.mulhW rd rj rk) s = .next t ∧
      GprEffect s t rd (BitVec.ofInt 32 ((s.reg rj).toInt * (s.reg rk).toInt / 2 ^ 32)) (s.pc + 4#32)) ∧
    (∃ t, exec (.mulhWu rd rj rk) s = .next t ∧
      GprEffect s t rd (BitVec.ofNat 32 ((s.reg rj).toNat * (s.reg rk).toNat / 2 ^ 32)) (s.pc + 4#32))

/-- Quotients and remainders: signed ones truncated toward zero, with the remainder's sign that of the dividend; a zero
divisor raises nothing and writes a value that nothing constrains (R183, R184, R185, R186, R187, R188). -/
def Obligations.DivideResults : Prop :=
  ∀ (rd rj rk : RegNum) (s : State),
    (s.reg rk ≠ 0#32 →
      (∃ t, exec (.divW rd rj rk) s = .next t ∧
        GprEffect s t rd (BitVec.ofInt 32 ((s.reg rj).toInt.tdiv (s.reg rk).toInt)) (s.pc + 4#32)) ∧
      (∃ t, exec (.divWu rd rj rk) s = .next t ∧
        GprEffect s t rd (BitVec.ofNat 32 ((s.reg rj).toNat / (s.reg rk).toNat)) (s.pc + 4#32)) ∧
      (∃ t, exec (.modW rd rj rk) s = .next t ∧
        GprEffect s t rd (BitVec.ofInt 32 ((s.reg rj).toInt.tmod (s.reg rk).toInt)) (s.pc + 4#32)) ∧
      (∃ t, exec (.modWu rd rj rk) s = .next t ∧
        GprEffect s t rd (BitVec.ofNat 32 ((s.reg rj).toNat % (s.reg rk).toNat)) (s.pc + 4#32))) ∧
    (s.reg rk = 0#32 →
      ∀ i ∈ [Instr.divW rd rj rk, .divWu rd rj rk, .modW rd rj rk, .modWu rd rj rk],
        ∃ t v, exec i s = .next t ∧ GprEffect s t rd v (s.pc + 4#32))

/-- Bitwise operations, bit by bit; immediates are zero-extended (R200, R201, R202, R203, R204, R205, R206, R207). -/
def Obligations.LogicResults : Prop :=
  ∀ (rd rj rk : RegNum) (ui12 : BitVec 12) (s : State),
    (∃ t v, exec (.and rd rj rk) s = .next t ∧ GprEffect s t rd v (s.pc + 4#32) ∧
      ∀ i, i < 32 → v.getLsbD i = ((s.reg rj).getLsbD i && (s.reg rk).getLsbD i)) ∧
    (∃ t v, exec (.or rd rj rk) s = .next t ∧ GprEffect s t rd v (s.pc + 4#32) ∧
      ∀ i, i < 32 → v.getLsbD i = ((s.reg rj).getLsbD i || (s.reg rk).getLsbD i)) ∧
    (∃ t v, exec (.nor rd rj rk) s = .next t ∧ GprEffect s t rd v (s.pc + 4#32) ∧
      ∀ i, i < 32 → v.getLsbD i = !((s.reg rj).getLsbD i || (s.reg rk).getLsbD i)) ∧
    (∃ t v, exec (.xor rd rj rk) s = .next t ∧ GprEffect s t rd v (s.pc + 4#32) ∧
      ∀ i, i < 32 → v.getLsbD i = ((s.reg rj).getLsbD i != (s.reg rk).getLsbD i)) ∧
    (∃ t v, exec (.andi rd rj ui12) s = .next t ∧ GprEffect s t rd v (s.pc + 4#32) ∧
      ∀ i, i < 32 → v.getLsbD i = ((s.reg rj).getLsbD i && (decide (i < 12) && ui12.getLsbD i))) ∧
    (∃ t v, exec (.ori rd rj ui12) s = .next t ∧ GprEffect s t rd v (s.pc + 4#32) ∧
      ∀ i, i < 32 → v.getLsbD i = ((s.reg rj).getLsbD i || (decide (i < 12) && ui12.getLsbD i))) ∧
    (∃ t v, exec (.xori rd rj ui12) s = .next t ∧ GprEffect s t rd v (s.pc + 4#32) ∧
      ∀ i, i < 32 → v.getLsbD i = ((s.reg rj).getLsbD i != (decide (i < 12) && ui12.getLsbD i)))

/-- Shifts by 0 to 31: left is multiplication by 2^n modulo 2^32, right is division by 2^n rounded down, of the unsigned
value (logical) or of the signed value (arithmetic); a register gives the amount in its low five bits
(R210, R211, R212, R213, R214, R215, R216). -/
def Obligations.ShiftResults : Prop :=
  ∀ (rd rj rk : RegNum) (ui5 : BitVec 5) (s : State),
    (∃ t, exec (.sllW rd rj rk) s = .next t ∧
      GprEffect s t rd (BitVec.ofNat 32 ((s.reg rj).toNat * 2 ^ ((s.reg rk).toNat % 32))) (s.pc + 4#32)) ∧
    (∃ t, exec (.srlW rd rj rk) s = .next t ∧
      GprEffect s t rd (BitVec.ofNat 32 ((s.reg rj).toNat / 2 ^ ((s.reg rk).toNat % 32))) (s.pc + 4#32)) ∧
    (∃ t, exec (.sraW rd rj rk) s = .next t ∧
      GprEffect s t rd (BitVec.ofInt 32 ((s.reg rj).toInt / 2 ^ ((s.reg rk).toNat % 32))) (s.pc + 4#32)) ∧
    (∃ t, exec (.slliW rd rj ui5) s = .next t ∧
      GprEffect s t rd (BitVec.ofNat 32 ((s.reg rj).toNat * 2 ^ ui5.toNat)) (s.pc + 4#32)) ∧
    (∃ t, exec (.srliW rd rj ui5) s = .next t ∧
      GprEffect s t rd (BitVec.ofNat 32 ((s.reg rj).toNat / 2 ^ ui5.toNat)) (s.pc + 4#32)) ∧
    (∃ t, exec (.sraiW rd rj ui5) s = .next t ∧
      GprEffect s t rd (BitVec.ofInt 32 ((s.reg rj).toInt / 2 ^ ui5.toNat)) (s.pc + 4#32))

/-- Conditional branches: to the branch's own address plus four times the signed offset when the comparison holds, else to
the next instruction; nothing else changes (R230, R231, R232, R233, R234, R235, R236). -/
def Obligations.ConditionalBranches : Prop :=
  ∀ (rj rd : RegNum) (o : BitVec 16) (s : State),
    let target := s.pc + BitVec.ofInt 32 (4 * o.toInt)
    let a := s.reg rj
    let b := s.reg rd
    (∃ t, exec (.beq rj rd o) s = .next t ∧ PcEffect s t (if a = b then target else s.pc + 4#32)) ∧
    (∃ t, exec (.bne rj rd o) s = .next t ∧ PcEffect s t (if a ≠ b then target else s.pc + 4#32)) ∧
    (∃ t, exec (.blt rj rd o) s = .next t ∧ PcEffect s t (if a.toInt < b.toInt then target else s.pc + 4#32)) ∧
    (∃ t, exec (.bge rj rd o) s = .next t ∧ PcEffect s t (if b.toInt ≤ a.toInt then target else s.pc + 4#32)) ∧
    (∃ t, exec (.bltu rj rd o) s = .next t ∧ PcEffect s t (if a.toNat < b.toNat then target else s.pc + 4#32)) ∧
    (∃ t, exec (.bgeu rj rd o) s = .next t ∧ PcEffect s t (if b.toNat ≤ a.toNat then target else s.pc + 4#32))

/-- Jumps: B leaves all registers, BL writes the return address to r1, JIRL to rd, with the target from the old value of rj
(R22, R237, R238, R239). -/
def Obligations.Jumps : Prop :=
  ∀ (rd rj : RegNum) (o16 : BitVec 16) (o26 : BitVec 26) (s : State),
    (∃ t, exec (.b o26) s = .next t ∧ PcEffect s t (s.pc + BitVec.ofInt 32 (4 * o26.toInt))) ∧
    (∃ t, exec (.bl o26) s = .next t ∧ GprEffect s t 1#5 (s.pc + 4#32) (s.pc + BitVec.ofInt 32 (4 * o26.toInt))) ∧
    (∃ t, exec (.jirl rd rj o16) s = .next t ∧
      GprEffect s t rd (s.pc + 4#32) (s.reg rj + BitVec.ofInt 32 (4 * o16.toInt)))

/-- Loads: the bytes at the translated address, the first least significant, sign- or zero-extended; the floating-point
loads when the unit is enabled, FLD.S leaving the high half unspecified
(R81, R83, R85, R250, R251, R252, R253, R254, R255, R405, R406, R411). -/
def Obligations.Loads : Prop :=
  ∀ (rd rj : RegNum) (o : BitVec 12) (s : State) (pa : PAddr) (mat : BitVec 2),
    let m := fun i => s.mem.read (pa.toNat + i)
    (Reaches s .load 1 (vaddr s rj o) pa mat →
      (∃ t, exec (.ldB rd rj o) s = .next t ∧ GprEffect s t rd ((m 0).signExtend 32) (s.pc + 4#32)) ∧
      (∃ t, exec (.ldBu rd rj o) s = .next t ∧ GprEffect s t rd ((m 0).setWidth 32) (s.pc + 4#32))) ∧
    (Reaches s .load 2 (vaddr s rj o) pa mat →
      (∃ t, exec (.ldH rd rj o) s = .next t ∧ GprEffect s t rd ((m 1 ++ m 0).signExtend 32) (s.pc + 4#32)) ∧
      (∃ t, exec (.ldHu rd rj o) s = .next t ∧ GprEffect s t rd ((m 1 ++ m 0).setWidth 32) (s.pc + 4#32))) ∧
    (Reaches s .load 4 (vaddr s rj o) pa mat →
      (∃ t, exec (.ldW rd rj o) s = .next t ∧ GprEffect s t rd (m 3 ++ m 2 ++ m 1 ++ m 0) (s.pc + 4#32)) ∧
      (s.csr.fpe = true → ∃ t, exec (.fldS rd rj o) s = .next t ∧
        FprEffect s t rd (m 3 ++ m 2 ++ m 1 ++ m 0) none s.fcsr)) ∧
    (Reaches s .load 8 (vaddr s rj o) pa mat → s.csr.fpe = true →
      ∃ t, exec (.fldD rd rj o) s = .next t ∧
        FprEffect s t rd (m 3 ++ m 2 ++ m 1 ++ m 0) (some (m 7 ++ m 6 ++ m 5 ++ m 4)) s.fcsr)

/-- Stores: the low bytes of rd, or of the floating-point register rd when the unit is enabled, at the translated address,
the first least significant; until IBAR a fetch may still see what the bytes held before; every other byte, every register
and all other state as before (R82, R83, R85, R102, R250, R256, R257, R258, R407, R408, R411, R552). -/
def Obligations.StoreBytes : Prop :=
  ∀ (rd rj : RegNum) (o : BitVec 12) (s : State) (pa : PAddr) (mat : BitVec 2),
    (Reaches s .store 1 (vaddr s rj o) pa mat →
      ∃ t, exec (.stB rd rj o) s = .next t ∧ StoreEffect (n := 1) s t pa (field (s.reg rd) 0 8)) ∧
    (Reaches s .store 2 (vaddr s rj o) pa mat →
      ∃ t, exec (.stH rd rj o) s = .next t ∧ StoreEffect (n := 2) s t pa (field (s.reg rd) 0 16)) ∧
    (Reaches s .store 4 (vaddr s rj o) pa mat →
      (∃ t, exec (.stW rd rj o) s = .next t ∧ StoreEffect (n := 4) s t pa (s.reg rd)) ∧
      (s.csr.fpe = true → ∃ t, exec (.fstS rd rj o) s = .next t ∧ StoreEffect (n := 4) s t pa (s.freg rd).lo)) ∧
    (Reaches s .store 8 (vaddr s rj o) pa mat → s.csr.fpe = true →
      ∃ t, exec (.fstD rd rj o) s = .next t ∧
        StoreEffect (n := 8) s t pa ((s.freg rd).hi ++ (s.freg rd).lo : BitVec 64))

/-- PRELD and DBAR change nothing but the program counter, with every hint; IBAR in addition ends what this core's own
stores left for a fetch to still see, also where another agent had stored before, so that after it a fetch reads memory
where only this core stored last (R102, R259, R275, R276, R552; what other agents leave is log 29, hints log 31 and
log 32). -/
def Obligations.HintsAndBarriers : Prop :=
  ∀ (h5 : BitVec 5) (h15 : BitVec 15) (rj : RegNum) (o : BitVec 12) (s : State),
    (∃ t, exec (.preld h5 rj o) s = .next t ∧ PcEffect s t (s.pc + 4#32)) ∧
    (∃ t, exec (.dbar h15) s = .next t ∧ PcEffect s t (s.pc + 4#32)) ∧
    (∃ t, exec (.ibar h15) s = .next t ∧
      t = { s with pc := s.pc + 4#32, stale := t.stale } ∧ (∀ b, b ∈ t.stale ↔ b ∈ s.stale ∧ b.own = false) ∧
      ∀ pa : PAddr, (∀ b ∈ s.stale, b.own = false → b.addr < pa.toNat ∨ pa.toNat + 4 ≤ b.addr) →
        t.fetchWordAt pa = s.mem.read (pa.toNat + 3) ++ s.mem.read (pa.toNat + 2) ++ s.mem.read (pa.toNat + 1) ++
          s.mem.read pa.toNat)

/-- LL.W: on coherent cached memory the word is loaded, LLbit set and the physical address recorded; on memory that is not
cached some value is loaded and LLbit is some value (R270, R273, R274). -/
def Obligations.LoadLinked : Prop :=
  ∀ (rd rj : RegNum) (o : BitVec 14) (s : State) (pa : PAddr) (mat : BitVec 2),
    Reaches s .load 4 (vaddr4 s rj o) pa mat →
    ∃ (t : State) (v : Word) (b : Bool), exec (.llW rd rj o) s = .next t ∧
      (mat = 1#2 → b = true ∧
        v = s.mem.read (pa.toNat + 3) ++ s.mem.read (pa.toNat + 2) ++ s.mem.read (pa.toNat + 1) ++ s.mem.read pa.toNat) ∧
      t.llbit = b ∧ (mat = 1#2 → t.lladdr = pa) ∧
      GprEffect s { t with llbit := s.llbit, lladdr := s.lladdr } rd v (s.pc + 4#32)

/-- SC.W: on coherent cached memory, with LLbit 1 it stores the word and writes 1 to rd, with LLbit 0 it stores nothing and
writes 0, and LLbit is 0 after either; on memory that is not cached, whether it stores, what it writes to rd and LLbit are
unconstrained. A store leaves the old bytes for a fetch as every store does. In both cases it goes on to the next
instruction and changes nothing else (R102, R271, R273, R274; log 26, log 48). -/
def Obligations.StoreConditional : Prop :=
  ∀ (rd rj : RegNum) (o : BitVec 14) (s : State) (pa : PAddr) (mat : BitVec 2),
    Reaches s .store 4 (vaddr4 s rj o) pa mat →
    ∃ t, exec (.scW rd rj o) s = .next t ∧
      (mat = 1#2 → t.llbit = false ∧ t.reg rd = (if rd = 0#5 then 0#32 else if s.llbit then 1#32 else 0#32) ∧
        (s.llbit = true → Stores (n := 4) s t pa (s.reg rd) ∧ StaleAfterStore s t pa 4) ∧
        (s.llbit = false → SameMemory s t ∧ t.stale = s.stale)) ∧
      (Stores (n := 4) s t pa (s.reg rd) ∧ StaleAfterStore s t pa 4 ∨ SameMemory s t ∧ t.stale = s.stale) ∧
      (∀ r, r ≠ rd → t.reg r = s.reg r) ∧ t.pc = s.pc + 4#32 ∧
      (∀ a, a < pa.toNat ∨ pa.toNat + 4 ≤ a → t.mem.read a = s.mem.read a) ∧
      SameFpr s t ∧ SameFlags s t ∧ t.fcsr = s.fcsr ∧ SameSystem s { t with llbit := s.llbit }

/-- The Stable Counter, 64 bits: 0 after reset, one more at every tick, from all ones back to 0; RDCNTVL.W reads bits 31:0
and RDCNTVH.W bits 63:32, at every privilege level; no instruction writes it (R52). -/
def Obligations.StableCounter : Prop :=
  State.reset.counter = 0#64 ∧
  (∀ s : State, (counterTick s).counter.toNat = (s.counter.toNat + 1) % 2 ^ 64) ∧
  (∀ (rd : RegNum) (s : State),
    (∃ t, exec (.rdcntvlW rd) s = .next t ∧
      GprEffect s t rd (BitVec.ofNat 32 s.counter.toNat) (s.pc + 4#32)) ∧
    (∃ t, exec (.rdcntvhW rd) s = .next t ∧
      GprEffect s t rd (BitVec.ofNat 32 (s.counter.toNat / 2 ^ 32)) (s.pc + 4#32))) ∧
  ∀ (i : Instr) (s t : State), exec i s = .next t → t.counter = s.counter

/-! ### Floating point -/

/-- The two-operand arithmetic instructions (R301 to R308, R317 to R324) with their format and IEEE 754-2008 operation. -/
def binaryFpTable :
    List ((RegNum → RegNum → RegNum → Instr) × FpFormat × (RoundMode → Nat → Nat → FpResult)) :=
  [(.faddS, .single, fpAdd .single), (.faddD, .double, fpAdd .double),
   (.fsubS, .single, fpSub .single), (.fsubD, .double, fpSub .double),
   (.fmulS, .single, fpMul .single), (.fmulD, .double, fpMul .double),
   (.fdivS, .single, fpDiv .single), (.fdivD, .double, fpDiv .double),
   (.fmaxS, .single, fun _ => fpMax .single), (.fmaxD, .double, fun _ => fpMax .double),
   (.fminS, .single, fun _ => fpMin .single), (.fminD, .double, fun _ => fpMin .double),
   (.fmaxaS, .single, fun _ => fpMaxMag .single), (.fmaxaD, .double, fun _ => fpMaxMag .double),
   (.fminaS, .single, fun _ => fpMinMag .single), (.fminaD, .double, fun _ => fpMinMag .double)]

/-- The fused instructions (R309 to R316, R344): format, whether the addend is negated, whether the result is. -/
def fusedFpTable : List ((RegNum → RegNum → RegNum → RegNum → Instr) × FpFormat × Bool × Bool) :=
  [(.fmaddS, .single, false, false), (.fmaddD, .double, false, false),
   (.fmsubS, .single, true, false), (.fmsubD, .double, true, false),
   (.fnmaddS, .single, false, true), (.fnmaddD, .double, false, true),
   (.fnmsubS, .single, true, true), (.fnmsubD, .double, true, true)]

/-- The one-operand arithmetic instructions and the conversions (R329 to R334, R363 to R376): the format read, the format
written (an integer result is written as a 32-bit one), and the operation, given `FCSR.RM`. -/
def unaryFpTable : List ((RegNum → RegNum → Instr) × FpFormat × FpFormat × (RoundMode → Nat → FpResult)) :=
  [(.fsqrtS, .single, .single, fpSqrt .single), (.fsqrtD, .double, .double, fpSqrt .double),
   (.frecipS, .single, .single, fpRecip .single), (.frecipD, .double, .double, fpRecip .double),
   (.frsqrtS, .single, .single, fpRsqrt .single), (.frsqrtD, .double, .double, fpRsqrt .double),
   (.fcvtSD, .double, .single, fpConvert .double .single), (.fcvtDS, .single, .double, fpConvert .single .double),
   (.ffintSW, .single, .single, fun rm x => fpFromInt .single rm (BitVec.ofNat 32 x).toInt),
   (.ffintDW, .single, .double, fun rm x => fpFromInt .double rm (BitVec.ofNat 32 x).toInt),
   (.ftintWS, .single, .single, fpToInt .single), (.ftintWD, .double, .single, fpToInt .double),
   (.ftintrmWS, .single, .single, fun _ => fpToInt .single .towardNegative),
   (.ftintrmWD, .double, .single, fun _ => fpToInt .double .towardNegative),
   (.ftintrpWS, .single, .single, fun _ => fpToInt .single .towardPositive),
   (.ftintrpWD, .double, .single, fun _ => fpToInt .double .towardPositive),
   (.ftintrzWS, .single, .single, fun _ => fpToInt .single .towardZero),
   (.ftintrzWD, .double, .single, fun _ => fpToInt .double .towardZero),
   (.ftintrneWS, .single, .single, fun _ => fpToInt .single .nearestEven),
   (.ftintrneWD, .double, .single, fun _ => fpToInt .double .nearestEven)]

/-- The comparisons (R360, R361, R362): format, the relations of the operands for which the flag becomes 1 (the column
"true when" of R360), and whether a quiet NaN signals V. -/
def compareTable : List ((FlagNum → RegNum → RegNum → Instr) × FpFormat × List FpRel × Bool) :=
  [
   (.fcmpCafS, .single, [], false), (.fcmpCunS, .single, [.un], false),
   (.fcmpCeqS, .single, [.eq], false), (.fcmpCueqS, .single, [.un, .eq], false),
   (.fcmpCltS, .single, [.lt], false), (.fcmpCultS, .single, [.un, .lt], false),
   (.fcmpCleS, .single, [.lt, .eq], false), (.fcmpCuleS, .single, [.un, .lt, .eq], false),
   (.fcmpCneS, .single, [.gt, .lt], false), (.fcmpCorS, .single, [.gt, .lt, .eq], false),
   (.fcmpCuneS, .single, [.un, .gt, .lt], false), (.fcmpSafS, .single, [], true),
   (.fcmpSunS, .single, [.un], true), (.fcmpSeqS, .single, [.eq], true),
   (.fcmpSueqS, .single, [.un, .eq], true), (.fcmpSltS, .single, [.lt], true),
   (.fcmpSultS, .single, [.un, .lt], true), (.fcmpSleS, .single, [.lt, .eq], true),
   (.fcmpSuleS, .single, [.un, .lt, .eq], true), (.fcmpSneS, .single, [.gt, .lt], true),
   (.fcmpSorS, .single, [.gt, .lt, .eq], true), (.fcmpSuneS, .single, [.un, .gt, .lt], true),
   (.fcmpCafD, .double, [], false), (.fcmpCunD, .double, [.un], false),
   (.fcmpCeqD, .double, [.eq], false), (.fcmpCueqD, .double, [.un, .eq], false),
   (.fcmpCltD, .double, [.lt], false), (.fcmpCultD, .double, [.un, .lt], false),
   (.fcmpCleD, .double, [.lt, .eq], false), (.fcmpCuleD, .double, [.un, .lt, .eq], false),
   (.fcmpCneD, .double, [.gt, .lt], false), (.fcmpCorD, .double, [.gt, .lt, .eq], false),
   (.fcmpCuneD, .double, [.un, .gt, .lt], false), (.fcmpSafD, .double, [], true),
   (.fcmpSunD, .double, [.un], true), (.fcmpSeqD, .double, [.eq], true),
   (.fcmpSueqD, .double, [.un, .eq], true), (.fcmpSltD, .double, [.lt], true),
   (.fcmpSultD, .double, [.un, .lt], true), (.fcmpSleD, .double, [.lt, .eq], true),
   (.fcmpSuleD, .double, [.un, .lt, .eq], true), (.fcmpSneD, .double, [.gt, .lt], true),
   (.fcmpSorD, .double, [.gt, .lt, .eq], true), (.fcmpSuneD, .double, [.un, .gt, .lt], true)]

/-- The pattern a `.S` or `.D` instruction reads: bits 31:0 of the register, or all 64 (R300 (c)). -/
def patternOf (s : State) (f : FpFormat) (r : RegNum) : Nat :=
  match f with
  | .single => (s.freg r).lo.toNat
  | .double => (s.freg r).hi.toNat * 2 ^ 32 + (s.freg r).lo.toNat

/-- The rounding mode that `FCSR.RM` names: 0 to nearest, ties to even, 1 toward zero, 2 toward plus infinity, 3 toward minus
infinity (R37). -/
def currentMode (s : State) : RoundMode :=
  let rm := field s.fcsr 8 2
  if rm = 0#2 then .nearestEven else if rm = 1#2 then .towardZero else if rm = 2#2 then .towardPositive
  else .towardNegative

/-- A pattern with its sign bit inverted (R344). -/
def signFlipped (f : FpFormat) (x : Nat) : Nat := if signOf f x then x - signWeight f else x + signWeight f

/-- Add, subtract, multiply, divide, maximum and minimum with the unit enabled, in the mode of `FCSR.RM` (R37): where no
signal of the operation is enabled, the result goes to fd, Cause is the signals and Flags gain them (R300, R301 to R308, R317
to R324, R343). -/
def Obligations.FpBinaryResults : Prop :=
  ∀ p ∈ binaryFpTable, ∀ (fd fj fk : RegNum) (s : State),
    let r := p.2.2 (currentMode s) (patternOf s p.2.1 fj) (patternOf s p.2.1 fk)
    s.csr.fpe = true → r.signals &&& field s.fcsr 0 5 = 0#5 →
    ∃ t, exec (p.1 fd fj fk) s = .next t ∧ FpResultEffect s t p.2.1 fd r

/-- The fused multiply-add instructions in the mode of `FCSR.RM` (R37), with the addend's and the result's sign bit inverted where the instruction says so
(R309 to R316, R343, R344). -/
def Obligations.FpFusedResults : Prop :=
  ∀ p ∈ fusedFpTable, ∀ (fd fj fk fa : RegNum) (s : State),
    let f := p.2.1
    let z := if p.2.2.1 then signFlipped f (patternOf s f fa) else patternOf s f fa
    let r := fpFma f (currentMode s) (patternOf s f fj) (patternOf s f fk) z
    s.csr.fpe = true → r.signals &&& field s.fcsr 0 5 = 0#5 →
    ∃ t, exec (p.1 fd fj fk fa) s = .next t ∧
      FpResultEffect s t f fd (if p.2.2.2 then { r with bits := signFlipped f r.bits } else r)

/-- Square roots, reciprocals and the conversions, among formats and to and from integers, in the mode of `FCSR.RM` (R37) or
in FTINT's own (R329 to R334, R363 to R376, R343). -/
def Obligations.FpUnaryResults : Prop :=
  ∀ p ∈ unaryFpTable, ∀ (fd fj : RegNum) (s : State),
    let r := p.2.2.2 (currentMode s) (patternOf s p.2.1 fj)
    s.csr.fpe = true → r.signals &&& field s.fcsr 0 5 = 0#5 →
    ∃ t, exec (p.1 fd fj) s = .next t ∧ FpResultEffect s t p.2.2.1 fd r

/-- Comparisons with the unit enabled: the flag is 1 exactly for the relations of the table; V is signalled for a
signalling NaN, and by the S conditions for any NaN; where V is not enabled or not signalled the flag is written and FCSR0
updated; otherwise FPE is taken with the flag unwritten (R343, R360, R361, R362, R468). -/
def Obligations.FpCompareResults : Prop :=
  ∀ p ∈ compareTable, ∀ (cd : FlagNum) (fj fk : RegNum) (s : State),
    let x := patternOf s p.2.1 fj
    let y := patternOf s p.2.1 fk
    let sig : Signals :=
      if isSignalling p.2.1 x ∨ isSignalling p.2.1 y ∨ (p.2.2.2 = true ∧ (isNan p.2.1 x ∨ isNan p.2.1 y)) then 16#5
      else 0#5
    s.csr.fpe = true →
    (sig &&& field s.fcsr 0 5 = 0#5 → ∃ t fcsr, exec (p.1 cd fj fk) s = .next t ∧ FcsrAfter s.fcsr fcsr sig ∧
      FlagEffect s t cd (decide (fpCompare p.2.1 x y ∈ p.2.2.1)) fcsr) ∧
    (sig &&& field s.fcsr 0 5 ≠ 0#5 → ∃ fcsr, FcsrTrapped s.fcsr fcsr sig ∧
      exec (p.1 cd fj fk) s = .next ((s.setFcsr fcsr).takeTrap .fpe))

/-- An enabled signal of an arithmetic instruction takes FPE: Cause holds the signals; Flags, the destination and
everything else are as before (R343, R468). -/
def Obligations.FpEnabledSignalTakesFpe : Prop :=
  (∀ p ∈ binaryFpTable, ∀ (fd fj fk : RegNum) (s : State),
    let r := p.2.2 (currentMode s) (patternOf s p.2.1 fj) (patternOf s p.2.1 fk)
    s.csr.fpe = true → r.signals &&& field s.fcsr 0 5 ≠ 0#5 →
    ∃ fcsr, FcsrTrapped s.fcsr fcsr r.signals ∧ exec (p.1 fd fj fk) s = .next ((s.setFcsr fcsr).takeTrap .fpe)) ∧
  (∀ p ∈ fusedFpTable, ∀ (fd fj fk fa : RegNum) (s : State),
    let f := p.2.1
    let z := if p.2.2.1 then signFlipped f (patternOf s f fa) else patternOf s f fa
    let r := fpFma f (currentMode s) (patternOf s f fj) (patternOf s f fk) z
    s.csr.fpe = true → r.signals &&& field s.fcsr 0 5 ≠ 0#5 →
    ∃ fcsr, FcsrTrapped s.fcsr fcsr r.signals ∧ exec (p.1 fd fj fk fa) s = .next ((s.setFcsr fcsr).takeTrap .fpe)) ∧
  (∀ p ∈ unaryFpTable, ∀ (fd fj : RegNum) (s : State),
    let r := p.2.2.2 (currentMode s) (patternOf s p.2.1 fj)
    s.csr.fpe = true → r.signals &&& field s.fcsr 0 5 ≠ 0#5 →
    ∃ fcsr, FcsrTrapped s.fcsr fcsr r.signals ∧ exec (p.1 fd fj) s = .next ((s.setFcsr fcsr).takeTrap .fpe))

/-- The class of a pattern by its sign bit, exponent and fraction fields, as the table of R339 gives it: the number of the
one bit that is set. -/
def classNumber (sign : Bool) (maxExp : Nat) (exp frac quietWeight : Nat) : Nat :=
  if exp = maxExp then
    if frac = 0 then (if sign then 2 else 6) else if frac < quietWeight then 0 else 1
  else if exp = 0 then
    if frac = 0 then (if sign then 5 else 9) else (if sign then 4 else 8)
  else (if sign then 3 else 7)

/-- The instructions on the bits of a pattern: FABS, FNEG, FCOPYSIGN clear the sign bit, invert it, or take it from fk, with
every other bit as in fj; FCLASS sets exactly the bit of R339's table; FCSR0 is untouched
(R325 to R328, R335 to R339, R346). -/
def Obligations.FpSignAndClassResults : Prop :=
  ∀ (fd fj fk : RegNum) (s : State), s.csr.fpe = true →
    let lo := (s.freg fj).lo
    let hi := (s.freg fj).hi
    let sS := (s.freg fj).lo.getLsbD 31
    let sD := (s.freg fj).hi.getLsbD 31
    (∃ t, exec (.fabsS fd fj) s = .next t ∧ FprEffect s t fd (setBit (s.freg fj).lo 31 false) none s.fcsr) ∧
    (∃ t, exec (.fnegS fd fj) s = .next t ∧ FprEffect s t fd (setBit (s.freg fj).lo 31 (!sS)) none s.fcsr) ∧
    (∃ t, exec (.fcopysignS fd fj fk) s = .next t ∧
      FprEffect s t fd (setBit (s.freg fj).lo 31 ((s.freg fk).lo.getLsbD 31)) none s.fcsr) ∧
    (∃ t, exec (.fabsD fd fj) s = .next t ∧
      FprEffect s t fd (s.freg fj).lo (some (setBit (s.freg fj).hi 31 false)) s.fcsr) ∧
    (∃ t, exec (.fnegD fd fj) s = .next t ∧
      FprEffect s t fd (s.freg fj).lo (some (setBit (s.freg fj).hi 31 (!sD))) s.fcsr) ∧
    (∃ t, exec (.fcopysignD fd fj fk) s = .next t ∧
      FprEffect s t fd (s.freg fj).lo (some (setBit (s.freg fj).hi 31 ((s.freg fk).hi.getLsbD 31))) s.fcsr) ∧
    (∃ t, exec (.fclassS fd fj) s = .next t ∧
      FprEffect s t fd (BitVec.ofNat 32 (2 ^ classNumber (lo.getLsbD 31) 255 (field lo 23 8).toNat
        (field lo 0 23).toNat (2 ^ 22))) none s.fcsr) ∧
    (∃ t, exec (.fclassD fd fj) s = .next t ∧
      FprEffect s t fd (BitVec.ofNat 32 (2 ^ classNumber (hi.getLsbD 31) 2047 (field hi 20 11).toNat
        ((field hi 0 20).toNat * 2 ^ 32 + lo.toNat) (2 ^ 51))) (some 0#32) s.fcsr)

/-- Moves with the unit enabled: bits are copied without interpretation, 32-bit writes leave the high half unspecified,
MOVGR2FRH.W keeps the low half, FCSR0 is untouched (R30, R31, R390, R391, R392, R393, R394, R395, R396, R409). -/
def Obligations.FpMoves : Prop :=
  ∀ (fd fj fk rd rj : RegNum) (ca : FlagNum) (s : State), s.csr.fpe = true →
    (∃ t, exec (.fmovS fd fj) s = .next t ∧ FprEffect s t fd (s.freg fj).lo none s.fcsr) ∧
    (∃ t, exec (.fmovD fd fj) s = .next t ∧ FprEffect s t fd (s.freg fj).lo (some (s.freg fj).hi) s.fcsr) ∧
    (∃ t, exec (.fsel fd fj fk ca) s = .next t ∧
      FprEffect s t fd (if s.flag ca then (s.freg fk).lo else (s.freg fj).lo)
        (some (if s.flag ca then (s.freg fk).hi else (s.freg fj).hi)) s.fcsr) ∧
    (∃ t, exec (.movgr2frW fd rj) s = .next t ∧ FprEffect s t fd (s.reg rj) none s.fcsr) ∧
    (∃ t, exec (.movgr2frhW fd rj) s = .next t ∧ FprEffect s t fd (s.freg fd).lo (some (s.reg rj)) s.fcsr) ∧
    (∃ t, exec (.movfr2grS rd fj) s = .next t ∧ GprEffect s t rd (s.freg fj).lo (s.pc + 4#32)) ∧
    (∃ t, exec (.movfrh2grS rd fj) s = .next t ∧ GprEffect s t rd (s.freg fj).hi (s.pc + 4#32))

/-- Condition-flag moves and branches with the unit enabled (R399, R400, R401, R402, R403, R404). -/
def Obligations.FlagMovesAndBranches : Prop :=
  ∀ (fd fj rd rj : RegNum) (cd : FlagNum) (o : BitVec 21) (s : State), s.csr.fpe = true →
    let target := s.pc + BitVec.ofInt 32 (4 * o.toInt)
    (∃ t, exec (.movfr2cf cd fj) s = .next t ∧ FlagEffect s t cd ((s.freg fj).lo.getLsbD 0) s.fcsr) ∧
    (∃ t, exec (.movgr2cf cd rj) s = .next t ∧ FlagEffect s t cd ((s.reg rj).getLsbD 0) s.fcsr) ∧
    (∃ t, exec (.movcf2fr fd cd) s = .next t ∧
      FprEffect s t fd (if s.flag cd then 1#32 else 0#32) (some 0#32) s.fcsr) ∧
    (∃ t, exec (.movcf2gr rd cd) s = .next t ∧
      GprEffect s t rd (if s.flag cd then 1#32 else 0#32) (s.pc + 4#32)) ∧
    (∃ t, exec (.bceqz cd o) s = .next t ∧ PcEffect s t (if s.flag cd then s.pc + 4#32 else target)) ∧
    (∃ t, exec (.bcnez cd o) s = .next t ∧ PcEffect s t (if s.flag cd then target else s.pc + 4#32))

/-- The bits of FCSR0 visible through FCSR number 0, 1, 2, 3 (R36). -/
def fcsrMask (n : BitVec 5) : Word :=
  if n = 0#5 then 0x1F1F031F#32 else if n = 1#5 then 0x0000001F#32 else if n = 2#5 then 0x1F1F0000#32 else 0x00000300#32

/-- MOVGR2FCSR and MOVFCSR2GR with the unit enabled: the bits a view shows, read in place with zeros elsewhere, and
written alone; a number that does not exist reads as some word and leaves the reserved bits 0; neither raises an
exception of its own (R35, R36, R397, R398). -/
def Obligations.FcsrMoves : Prop :=
  ∀ (n : BitVec 5) (rd rj : RegNum) (s : State), s.csr.fpe = true →
    (n.toNat < 4 →
      (∃ t, exec (.movgr2fcsr n rj) s = .next t ∧
        t = { s with
          pc := s.pc + 4#32, fcsr := (s.fcsr &&& ~~~fcsrMask n) ||| (s.reg rj &&& fcsrMask n) }) ∧
      (∃ t, exec (.movfcsr2gr rd n) s = .next t ∧ GprEffect s t rd (s.fcsr &&& fcsrMask n) (s.pc + 4#32))) ∧
    (4 ≤ n.toNat →
      (∃ t, exec (.movgr2fcsr n rj) s = .next t ∧ t.fcsr &&& ~~~0x1F1F031F#32 = 0#32 ∧
        t = { s with pc := s.pc + 4#32, fcsr := t.fcsr, draws := t.draws }) ∧
      (∃ t v, exec (.movfcsr2gr rd n) s = .next t ∧ GprEffect s t rd v (s.pc + 4#32)))

/-! ### Control and status registers -/

/-- What software reads from each CSR of R45, by number (R46, R60 to R79): a stored register whole; ASID with ASIDBITS 10;
PGD as PGDH or PGDL by BADV[31]; CPUID the core's number; TICLR 0; LLBCTL with ROLLB the LLbit and KLO. -/
def csrReads : List (BitVec 14 × (State → Word)) :=
  [(0x0, fun s => s.csr.crmd), (0x1, fun s => s.csr.prmd), (0x2, fun s => s.csr.euen), (0x4, fun s => s.csr.ecfg),
   (0x5, fun s => s.csr.estat), (0x6, fun s => s.csr.era), (0x7, fun s => s.csr.badv), (0xC, fun s => s.csr.eentry),
   (0x10, fun s => s.csr.tlbidx), (0x11, fun s => s.csr.tlbehi), (0x12, fun s => s.csr.tlbelo0),
   (0x13, fun s => s.csr.tlbelo1), (0x18, fun s => BitVec.ofNat 32 (s.csr.asid.toNat + 0xA0000)),
   (0x19, fun s => s.csr.pgdl), (0x1A, fun s => s.csr.pgdh),
   (0x1B, fun s => if s.csr.badv.getLsbD 31 then s.csr.pgdh else s.csr.pgdl),
   (0x20, fun _ => BitVec.ofNat 32 Config.coreId.val),
   (0x30, fun s => s.csr.save0), (0x31, fun s => s.csr.save1), (0x32, fun s => s.csr.save2),
   (0x33, fun s => s.csr.save3), (0x40, fun s => s.csr.tid), (0x41, fun s => s.csr.tcfg), (0x42, fun s => s.csr.tval),
   (0x44, fun _ => 0#32),
   (0x60, fun s => BitVec.ofNat 32 ((if s.llbit then 1 else 0) + (if s.csr.klo then 4 else 0))),
   (0x88, fun s => s.csr.tlbrentry), (0x98, fun s => s.csr.ctag), (0x180, fun s => s.csr.dmw0),
   (0x181, fun s => s.csr.dmw1)]

/-- The value of CSR number `n`: 0 for a number the architecture does not define (R42). -/
def csrValue (n : BitVec 14) (s : State) : Word :=
  match csrReads.find? (fun p => p.1 == n) with
  | some p => p.2 s
  | none => 0#32

/-- For each CSR whose write only stores fields: its number, the bits a write changes, and the bits that keep their value;
all other bits read 0 (R60 to R79; 32-bit physical addresses, log 1, 32 TLB entries, log 3). -/
def csrWrites : List (BitVec 14 × Word × Word) :=
  [(0x0, 0x000001FF, 0), (0x1, 0x00000007, 0), (0x2, 0x00000001, 0), (0x4, 0x00001BFF, 0),
   (0x5, 0x00000003, 0x7FFF1BFC), (0x6, 0xFFFFFFFF, 0), (0x7, 0xFFFFFFFF, 0), (0xC, 0xFFFFFFC0, 0),
   (0x10, 0xBF00001F, 0), (0x11, 0xFFFFE000, 0), (0x12, 0x0FFFFF7F, 0), (0x13, 0x0FFFFF7F, 0),
   (0x18, 0x000003FF, 0x000A0000), (0x19, 0xFFFFF000, 0), (0x1A, 0xFFFFF000, 0), (0x1B, 0, 0xFFFFFFFF),
   (0x20, 0, 0xFFFFFFFF), (0x30, 0xFFFFFFFF, 0), (0x31, 0xFFFFFFFF, 0), (0x32, 0xFFFFFFFF, 0),
   (0x33, 0xFFFFFFFF, 0), (0x40, 0xFFFFFFFF, 0), (0x42, 0, 0xFFFFFFFF), (0x88, 0xFFFFFFC0, 0),
   (0x180, 0xEE000039, 0), (0x181, 0xEE000039, 0)]

/-- CSRRD at PLV0 writes the CSR's value to rd, RDCNTID at every privilege level writes CSR.TID to rj; neither changes
anything else (R45, R46, R53, R75, R294, R431). The CSRs are those of R45 (log 45), CPUID reads the number of log 5. -/
def Obligations.CsrAndCounterIdReads : Prop :=
  ∀ (rd rj : RegNum) (n : BitVec 14) (s : State),
    (s.csr.plv = 0#2 → ∃ t, exec (.csrrd rd n) s = .next t ∧ GprEffect s t rd (csrValue n s) (s.pc + 4#32)) ∧
    (∃ t, exec (.rdcntid rj) s = .next t ∧ GprEffect s t rj s.csr.tid (s.pc + 4#32))

/-- For a number that the architecture does not define, CSRRD, CSRWR and CSRXCHG at PLV0 write 0 to rd, change nothing else,
and raise no exception (R42). The numbers that it defines are those of R45, the default of `CSR_SET` (log 45). -/
def Obligations.UndefinedCsrs : Prop :=
  ∀ (rd rj : RegNum) (n : BitVec 14) (s : State), s.csr.plv = 0#2 → n ∉ csrReads.map (fun p => p.1) →
    (∃ t, exec (.csrrd rd n) s = .next t ∧ GprEffect s t rd 0#32 (s.pc + 4#32)) ∧
    (∃ t, exec (.csrwr rd n) s = .next t ∧ GprEffect s t rd 0#32 (s.pc + 4#32)) ∧
    (∃ t, exec (.csrxchg rd rj n) s = .next t ∧ GprEffect s t rd 0#32 (s.pc + 4#32))

/-- CSRWR at PLV0: rd gets the old value; the CSR's writable fields get the old rd, its read-only fields and every other
CSR keep their value (R45, R46, R432). For BADV, PGDL and PGDH, the view PGD follows. In states whose reserved bits are 0. The
widths of PPN and Index are log 1 and log 3. -/
def Obligations.CsrWrite : Prop :=
  ∀ p ∈ csrWrites, ∀ (rd : RegNum) (s : State), s.csr.plv = 0#2 → s.csr.reservedZero = true →
    ∃ t, exec (.csrwr rd p.1) s = .next t ∧
      t.reg rd = (if rd = 0#5 then 0#32 else csrValue p.1 s) ∧
      csrValue p.1 t = (csrValue p.1 s &&& p.2.2) ||| (s.reg rd &&& p.2.1) ∧
      (∀ n, n ≠ p.1 → (n = 0x1B#14 → p.1 ∉ [0x7#14, 0x19#14, 0x1A#14]) → csrValue n t = csrValue n s) ∧
      CsrWriteFrame s t rd ∧ t.llbit = s.llbit ∧ t.timerRunning = s.timerRunning

/-- CSRXCHG at PLV0: rd gets the old value; of the writable bits of the CSR, those set in rj get the bits of the old rd,
the others keep their value (R433). In states whose reserved bits are 0. -/
def Obligations.CsrExchange : Prop :=
  ∀ p ∈ csrWrites, ∀ (rd rj : RegNum) (s : State), s.csr.plv = 0#2 → s.csr.reservedZero = true →
    ∃ t, exec (.csrxchg rd rj p.1) s = .next t ∧
      t.reg rd = (if rd = 0#5 then 0#32 else csrValue p.1 s) ∧
      (∀ i, i < 32 → (csrValue p.1 t).getLsbD i =
        if p.2.1.getLsbD i && (s.reg rj).getLsbD i then (s.reg rd).getLsbD i else (csrValue p.1 s).getLsbD i) ∧
      (∀ n, n ≠ p.1 → (n = 0x1B#14 → p.1 ∉ [0x7#14, 0x19#14, 0x1A#14]) → csrValue n t = csrValue n s) ∧
      CsrWriteFrame s t rd ∧ t.llbit = s.llbit ∧ t.timerRunning = s.timerRunning

/-- The instruction writes `v` to CSR number `n`: CSRWR of rd, or CSRXCHG with a mask in rj that is not empty (R432, R433). -/
def WritesCsr (s : State) (i : Instr) (rd : RegNum) (n : BitVec 14) (v : Word) : Prop :=
  (i = .csrwr rd n ∧ v = s.reg rd) ∨
    ∃ rj, i = .csrxchg rd rj n ∧ s.reg rj ≠ 0#32 ∧ v = (csrValue n s &&& ~~~s.reg rj) ||| (s.reg rd &&& s.reg rj)

/-- CSR writes that act, by CSRWR and CSRXCHG at PLV0: TCFG with En loads the timer with its initial value and starts it,
without En stops it; TICLR.CLR clears the timer interrupt; LLBCTL stores KLO and a 1 in WCLLB clears LLbit; CTAG takes its
writable bits; rd gets the old value. CSRXCHG with an empty mask only reads (R76, R77, R79, R272, R432, R433, R500). That the
timer has 32 bits is log 6, that TVAL keeps its value when it is stopped log 51, the writable bits of CTAG log 40, the empty
mask log 42. -/
def Obligations.CsrWriteActions : Prop :=
  ∀ (i : Instr) (rd : RegNum) (s : State) (v : Word), s.csr.plv = 0#2 →
    (WritesCsr s i rd 0x41#14 v → ∃ t, exec i s = .next t ∧ CsrWriteFrame s t rd ∧
      t.reg rd = (if rd = 0#5 then 0#32 else s.csr.tcfg) ∧ t.csr.tcfg = v ∧ t.timerRunning = v.getLsbD 0 ∧
      t.csr.tval = (if v.getLsbD 0 then BitVec.ofNat 32 (v.toNat / 4 * 4) else s.csr.tval) ∧
      t.csr = { s.csr with tcfg := t.csr.tcfg, tval := t.csr.tval } ∧ t.llbit = s.llbit) ∧
    (WritesCsr s i rd 0x44#14 v → ∃ t, exec i s = .next t ∧ CsrWriteFrame s t rd ∧ t.reg rd = 0#32 ∧
      (∀ k, t.csr.estat.getLsbD k = if k = 11 ∧ v.getLsbD 0 = true then false else s.csr.estat.getLsbD k) ∧
      t.csr = { s.csr with estat := t.csr.estat } ∧ t.timerRunning = s.timerRunning ∧ t.llbit = s.llbit) ∧
    (WritesCsr s i rd 0x60#14 v → ∃ t, exec i s = .next t ∧ CsrWriteFrame s t rd ∧
      t.reg rd = (if rd = 0#5 then 0#32 else csrValue 0x60#14 s) ∧ t.csr.klo = v.getLsbD 2 ∧
      t.llbit = (if v.getLsbD 1 then false else s.llbit) ∧
      t.csr = { s.csr with klo := t.csr.klo } ∧ t.timerRunning = s.timerRunning) ∧
    (WritesCsr s i rd 0x98#14 v → ∃ t, exec i s = .next t ∧ CsrWriteFrame s t rd ∧
      t.reg rd = (if rd = 0#5 then 0#32 else s.csr.ctag) ∧
      t.csr = { s.csr with ctag := (s.csr.ctag &&& ~~~Config.ctagWritable) ||| (v &&& Config.ctagWritable) } ∧
      t.timerRunning = s.timerRunning ∧ t.llbit = s.llbit) ∧
    (∀ (rj : RegNum) (n : BitVec 14), s.reg rj = 0#32 →
      ∃ t, exec (.csrxchg rd rj n) s = .next t ∧ GprEffect s t rd (csrValue n s) (s.pc + 4#32))

/-! ### TLB, cache and wait instructions -/

/-- The entry matches an address whose bits 31:13 are `vppn`, in address space `asid` (R95): it exists, is global or of
the address space, and agrees on the bits above its page pair. Page sizes 2^12 and 2^21. -/
def Matches (e : TlbEntry) (asid : BitVec 10) (vppn : BitVec 19) : Prop :=
  e.e = true ∧ (e.g = true ∨ e.asid = asid) ∧
    e.vppn.toNat / 2 ^ (e.ps.toNat - 12) = vppn.toNat / 2 ^ (e.ps.toNat - 12)

/-- Every TLB entry that exists has one of the two page sizes the architecture requires (R55, R439). -/
def RequiredSizes (s : State) : Prop :=
  ∀ i : Fin Config.tlbEntries, (s.tlb.get i).e = true → (s.tlb.get i).ps = 12#6 ∨ (s.tlb.get i).ps = 21#6

/-- TLBSRCH at PLV0: the index of the one matching entry and NE 0; with no match, NE 1 and the index as it was; PS and the
rest unchanged (R437). -/
def Obligations.TlbSearch : Prop :=
  ∀ s : State, s.csr.plv = 0#2 → RequiredSizes s →
    (∀ i : Fin Config.tlbEntries, Matches (s.tlb.get i) s.csr.asid s.csr.vppn →
      (∀ j : Fin Config.tlbEntries, Matches (s.tlb.get j) s.csr.asid s.csr.vppn → j = i) →
      ∃ t, exec .tlbsrch s = .next t ∧ t.csr.index.toNat = i.val ∧ t.csr.ne = false ∧ t.csr.ps = s.csr.ps ∧
        t.csr = { s.csr with tlbidx := t.csr.tlbidx } ∧ t.tlb = s.tlb ∧ TlbFrame s t) ∧
    ((∀ i : Fin Config.tlbEntries, ¬ Matches (s.tlb.get i) s.csr.asid s.csr.vppn) →
      ∃ t, exec .tlbsrch s = .next t ∧ t.csr.ne = true ∧ field t.csr.tlbidx 0 31 = field s.csr.tlbidx 0 31 ∧
        t.csr = { s.csr with tlbidx := t.csr.tlbidx } ∧ t.tlb = s.tlb ∧ TlbFrame s t)

/-- The page information of a page and its entry's G, field by field, in a TLBELO register (R70). -/
def HoldsPage (elo : Word) (p : TlbPage) (g : Bool) : Prop :=
  elo.getLsbD 0 = p.v ∧ elo.getLsbD 1 = p.d ∧ field elo 2 2 = p.plv ∧ field elo 4 2 = p.mat ∧ elo.getLsbD 6 = g ∧
    elo.getLsbD 7 = false ∧ field elo 8 20 = p.ppn ∧ field elo 28 4 = 0#4

/-- The entry the TLB CSRs describe (R439). -/
def FromCsrs (c : Csrs) (e : TlbEntry) : Prop :=
  (e.e = true ↔ c.ecode = 0x3F#6 ∨ c.ne = false) ∧ e.vppn = c.vppn ∧ e.ps = c.ps ∧ e.asid = c.asid ∧
    e.g = (c.tlbelo0.getLsbD 6 && c.tlbelo1.getLsbD 6) ∧
    (e.page0.v = c.tlbelo0.getLsbD 0 ∧ e.page0.d = c.tlbelo0.getLsbD 1 ∧ e.page0.plv = field c.tlbelo0 2 2 ∧
      e.page0.mat = field c.tlbelo0 4 2 ∧ e.page0.ppn = field c.tlbelo0 8 20) ∧
    (e.page1.v = c.tlbelo1.getLsbD 0 ∧ e.page1.d = c.tlbelo1.getLsbD 1 ∧ e.page1.plv = field c.tlbelo1 2 2 ∧
      e.page1.mat = field c.tlbelo1 4 2 ∧ e.page1.ppn = field c.tlbelo1 8 20)

/-- TLBRD, TLBWR, TLBFILL at PLV0. TLBRD: an existing entry's page information goes to TLBEHI, TLBELO0, TLBELO1 and
TLBIDX.PS with NE 0; for an invalid one NE is 1 and ASID, TLBEHI, TLBELO0, TLBELO1 and PS are 0. TLBWR writes the entry the
CSRs describe at TLBIDX.Index, TLBFILL at some index; every other entry and all CSRs are as before (R438, R439, R440, and
D41 for ASID). Every Index names an entry (log 3); an invalid entry is written with the other fields of the CSRs (log 43). -/
def Obligations.TlbReadAndWrite : Prop :=
  ∀ (s : State) (i : Fin Config.tlbEntries), s.csr.plv = 0#2 → i.val = s.csr.index.toNat →
    (∃ t, exec .tlbrd s = .next t ∧ t.tlb = s.tlb ∧ TlbFrame s t ∧ t.csr.index = s.csr.index ∧
        t.csr = { s.csr with
          tlbidx := t.csr.tlbidx, tlbehi := t.csr.tlbehi, tlbelo0 := t.csr.tlbelo0, tlbelo1 := t.csr.tlbelo1,
          asid := t.csr.asid } ∧
        let e := s.tlb.get i
        (e.e = true → t.csr.ne = false ∧ t.csr.ps = e.ps ∧ t.csr.vppn = e.vppn ∧ field t.csr.tlbehi 0 13 = 0#13 ∧
          HoldsPage t.csr.tlbelo0 e.page0 e.g ∧ HoldsPage t.csr.tlbelo1 e.page1 e.g ∧ t.csr.asid = s.csr.asid) ∧
        (e.e = false → t.csr.ne = true ∧ t.csr.ps = 0#6 ∧ t.csr.tlbehi = 0#32 ∧ t.csr.tlbelo0 = 0#32 ∧
          t.csr.tlbelo1 = 0#32 ∧ t.csr.asid = 0#10)) ∧
    (∃ t, exec .tlbwr s = .next t ∧ FromCsrs s.csr (t.tlb.get i) ∧
      (∀ j : Fin Config.tlbEntries, j ≠ i → t.tlb.get j = s.tlb.get j) ∧ t.csr = s.csr ∧ TlbFrame s t) ∧
    (∃ t, exec .tlbfill s = .next t ∧ t.csr = s.csr ∧ TlbFrame s t ∧
      ∃ v : Fin Config.tlbEntries, FromCsrs s.csr (t.tlb.get v) ∧
        ∀ j : Fin Config.tlbEntries, j ≠ v → t.tlb.get j = s.tlb.get j)

/-- Whether INVTLB with an operation clears an entry: the table of R441. -/
def Cleared (op : BitVec 5) (a : BitVec 10) (va : Word) (e : TlbEntry) : Prop :=
  let vaMatch := e.vppn.toNat / 2 ^ (e.ps.toNat - 12) = (field va 13 19).toNat / 2 ^ (e.ps.toNat - 12)
  op = 0#5 ∨ op = 1#5 ∨ (op = 2#5 ∧ e.g = true) ∨ (op = 3#5 ∧ e.g = false) ∨
    (op = 4#5 ∧ e.g = false ∧ e.asid = a) ∨ (op = 5#5 ∧ e.g = false ∧ e.asid = a ∧ vaMatch) ∨
    (op = 6#5 ∧ (e.g = true ∨ e.asid = a) ∧ vaMatch)

/-- INVTLB at PLV0: with an operation of the table, the entries it selects become invalid and keep their other fields, the
rest of the TLB and all else is unchanged; with another operation it takes INE. Operations 0 to 4 act on entries of every
page size (R56, R441; bits 31:10 of rj are ignored, log 34). -/
def Obligations.TlbInvalidate : Prop :=
  ∀ (op : BitVec 5) (rj rk : RegNum) (s : State), s.csr.plv = 0#2 →
    (op.toNat ≤ 6 → (5 ≤ op.toNat → RequiredSizes s) →
      ∃ t, exec (.invtlb op rj rk) s = .next t ∧ t.csr = s.csr ∧ TlbFrame s t ∧
        ∀ i : Fin Config.tlbEntries, ∃ b, t.tlb.get i = { s.tlb.get i with e := b } ∧
          (Cleared op (field (s.reg rj) 0 10) (s.reg rk) (s.tlb.get i) → b = false) ∧
          (¬ Cleared op (field (s.reg rj) 0 10) (s.reg rk) (s.tlb.get i) → b = (s.tlb.get i).e)) ∧
    (6 < op.toNat → exec (.invtlb op rj rk) s = .next (s.takeTrap .ine))

/-- CACOP and IDLE at PLV0: CACOP changes nothing but the program counter, except that a hit-type operation on a cache that the
implementation has takes the exceptions of a load at its address, never for alignment; on an absent cache, which caches 3 to 7
always are, it does not (U22, log 30, log 56). IDLE starts the wait at the next instruction, for every level (R435, R443,
log 33). -/
def Obligations.CacopAndIdle : Prop :=
  ∀ (code : BitVec 5) (rj : RegNum) (o : BitVec 12) (l : BitVec 15) (s : State), s.csr.plv = 0#2 →
    let kind := field (zext32 code) 3 2
    let cache := field (zext32 code) 0 3
    (kind ≠ 2#2 → ∃ t, exec (.cacop code rj o) s = .next t ∧ PcEffect s t (s.pc + 4#32)) ∧
    (∀ pa mat, s.translate .load (vaddr s rj o) = .mapped pa mat →
      ∃ t, exec (.cacop code rj o) s = .next t ∧ PcEffect s t (s.pc + 4#32)) ∧
    (∀ e, kind = 2#2 → s.translate .load (vaddr s rj o) = .trapped e →
      exec (.cacop code rj o) s =
        .next (if cache.toNat ≤ 2 ∧ (Config.cacheGeom cache).isSome then s.takeTrap e
          else { s with pc := s.pc + 4#32 })) ∧
    (2 < cache.toNat → ∃ t, exec (.cacop code rj o) s = .next t ∧ PcEffect s t (s.pc + 4#32)) ∧
    (∃ t, exec (.idle l) s = .next t ∧ t = { s with pc := s.pc + 4#32, idle := true })

/-! ### Address translation -/

/-- The window matches an address at the current privilege level (R92, R94). -/
def WindowMatches (dmw : Word) (plv : BitVec 2) (va : Word) : Prop :=
  field va 29 3 = field dmw 29 3 ∧ ((plv = 0#2 ∧ dmw.getLsbD 0 = true) ∨ (plv = 3#2 ∧ dmw.getLsbD 3 = true))

/-- Direct mode: the physical address is the virtual one at its width (log 1), with DATF or DATM, and no exception is
possible. Mapped mode at PLV0 or PLV3: the first enabled window of DMW0, DMW1 that matches replaces bits 31:29; outside the windows an address with
bit 31 set is illegal at PLV3; else the TLB is looked up: no matching entry gives TLBR; the one matching entry's page is
checked for validity, privilege and, for stores, modification, in this order; else the page's frame and the address's
offset in the page make the physical address (R89 to R96). -/
def Obligations.Translation : Prop :=
  ∀ (s : State) (kind : Access) (va : Word),
    (s.csr.da = true → s.csr.pg = false →
      s.translate kind va = .mapped (va.setWidth Config.palen) (if kind = .fetch then s.csr.datf else s.csr.datm)) ∧
    (s.csr.da = false → s.csr.pg = true → s.csr.plv = 0#2 ∨ s.csr.plv = 3#2 →
      (WindowMatches s.csr.dmw0 s.csr.plv va →
        ∃ pa, s.translate kind va = .mapped pa (field s.csr.dmw0 4 2) ∧ field pa 29 3 = field s.csr.dmw0 25 3 ∧
          field pa 0 29 = field va 0 29) ∧
      (¬ WindowMatches s.csr.dmw0 s.csr.plv va → WindowMatches s.csr.dmw1 s.csr.plv va →
        ∃ pa, s.translate kind va = .mapped pa (field s.csr.dmw1 4 2) ∧ field pa 29 3 = field s.csr.dmw1 25 3 ∧
          field pa 0 29 = field va 0 29) ∧
      (¬ WindowMatches s.csr.dmw0 s.csr.plv va → ¬ WindowMatches s.csr.dmw1 s.csr.plv va →
        (s.csr.plv = 3#2 → va.getLsbD 31 = true →
          s.translate kind va = .trapped (if kind = .fetch then .adef va else .adem va)) ∧
        ((s.csr.plv = 3#2 → va.getLsbD 31 = false) → RequiredSizes s →
          ((∀ i : Fin Config.tlbEntries, ¬ Matches (s.tlb.get i) s.csr.asid (field va 13 19)) →
            s.translate kind va = .trapped (.tlbr va)) ∧
          ∀ i : Fin Config.tlbEntries, Matches (s.tlb.get i) s.csr.asid (field va 13 19) →
            (∀ j : Fin Config.tlbEntries, Matches (s.tlb.get j) s.csr.asid (field va 13 19) → j = i) →
            let e := s.tlb.get i
            let p := if va.getLsbD e.ps.toNat then e.page1 else e.page0
            (p.v = false → s.translate kind va =
              .trapped (match kind with | .load => .pil va | .store => .pis va | .fetch => .pif va)) ∧
            (p.v = true → p.plv.toNat < s.csr.plv.toNat → s.translate kind va = .trapped (.ppi va)) ∧
            (p.v = true → s.csr.plv.toNat ≤ p.plv.toNat → kind = .store → p.d = false →
              s.translate kind va = .trapped (.pme va)) ∧
            (p.v = true → s.csr.plv.toNat ≤ p.plv.toNat → (kind = .store → p.d = true) →
              ∃ pa, s.translate kind va = .mapped pa p.mat ∧
                pa.toNat = p.ppn.toNat / 2 ^ (e.ps.toNat - 12) * 2 ^ e.ps.toNat + va.toNat % 2 ^ e.ps.toNat))))

/-! ### The other agents -/

/-- One counter tick: the Stable Counter goes up by 1 modulo 2^64; a running timer counts down, and at 0 sets the timer
interrupt and reloads (periodic) or stops (one-shot) (R52, R500, R501). That TVAL keeps its value while the timer is off and
stays 0 after a one-shot end is the model's choice, log 51; the timer's 32 bits are log 6. -/
def Obligations.CounterTick : Prop :=
  ∀ s : State,
    let t := counterTick s
    t.counter.toNat = (s.counter.toNat + 1) % 2 ^ 64 ∧
    (s.timerRunning = false → t.csr = s.csr ∧ t.timerRunning = false) ∧
    (s.timerRunning = true → s.csr.tval ≠ 0#32 →
      t.csr = { s.csr with tval := s.csr.tval - 1#32 } ∧ t.timerRunning = true) ∧
    (s.timerRunning = true → s.csr.tval = 0#32 →
      (∀ i, i < 32 → t.csr.estat.getLsbD i = if i = 11 then true else s.csr.estat.getLsbD i) ∧
      t.timerRunning = s.csr.tcfg.getLsbD 1 ∧
      t.csr.tval = (if s.csr.tcfg.getLsbD 1 then s.csr.tcfg &&& 0xFFFFFFFC#32 else 0#32) ∧
      t.csr = { s.csr with estat := t.csr.estat, tval := t.csr.tval }) ∧
    t = { s with counter := t.counter, csr := t.csr, timerRunning := t.timerRunning }

/-- A store completed by another agent changes those bytes of memory and no register, and clears LLbit when it touches a
byte of the reserved word, which lies in the reserved line whatever its size (log 41); bytes past the last physical
address are a fault, and the whole store is one move (log 53). That what the bytes held before stays possible for this core's
fetch is the model's choice, log 29: R102 says that the spec does not cover it (N22). The reservation may be lost for other
reasons, and then nothing else changes (R272). -/
def Obligations.ExternalStore : Prop :=
  ∀ (s : State) (pa : PAddr) (bytes : List Byte),
    (pa.toNat + bytes.length ≤ 2 ^ Config.palen →
      ∃ t, agentStep (.externalStore pa bytes) s = .next t ∧
        (∀ i (h : i < bytes.length), t.mem.read (pa.toNat + i) = bytes[i]) ∧
        (∀ a, a < pa.toNat ∨ pa.toNat + bytes.length ≤ a → t.mem.read a = s.mem.read a) ∧
        (∀ i, i < bytes.length →
          oldValues t (pa.toNat + i) = s.mem.read (pa.toNat + i) :: oldValues s (pa.toNat + i)) ∧
        (∀ a, a < pa.toNat ∨ pa.toNat + bytes.length ≤ a →
          t.stale.filter (fun b => b.addr == a) = s.stale.filter (fun b => b.addr == a)) ∧
        ((∃ i, i < bytes.length ∧ (pa.toNat + i) / 4 = s.lladdr.toNat / 4) → t.llbit = false) ∧
        (bytes = [] → t.llbit = s.llbit) ∧ (s.llbit = false → t.llbit = false) ∧
        t = { s with mem := t.mem, stale := t.stale, llbit := t.llbit }) ∧
    (2 ^ Config.palen < pa.toNat + bytes.length →
      agentStep (.externalStore pa bytes) s = .fault .outsideAddressSpace) ∧
    agentStep .spuriousClear s = .next { s with llbit := false }

/-! ### IEEE 754-2008 numbers -/

/-- The first power of two above every finite number of the format (R341). -/
noncomputable def topOf (f : FpFormat) : ℝ := 2 ^ ((bias f : Int) + 1)

/-- The distance of the two largest finite numbers: the largest one is `topOf f - topUnit f` (R341). -/
noncomputable def topUnit (f : FpFormat) : ℝ := 2 ^ ((bias f : Int) - (fracBits f : Int))

/-- The smallest normal number (R341). -/
noncomputable def smallestNormal (f : FpFormat) : ℝ := 2 ^ (1 - (bias f : Int))

/-- The distance to the next number below it, were the exponent range unbounded (R341). -/
noncomputable def normalUnit (f : FpFormat) : ℝ := 2 ^ (-(bias f : Int) - (fracBits f : Int))

/-- Overflow: `x` rounded in the mode with the exponent range unbounded is larger in magnitude than every finite number
(IEEE 754-2008 clause 7.4, R341). -/
def Overflows (f : FpFormat) (rm : RoundMode) (x : ℝ) : Prop :=
  match rm with
  | .nearestEven => topOf f - topUnit f / 2 ≤ |x|
  | .towardZero => topOf f ≤ |x|
  | .towardPositive => topOf f - topUnit f < x ∨ x ≤ -topOf f
  | .towardNegative => topOf f ≤ x ∨ x < -(topOf f - topUnit f)

/-- Tininess detected after rounding: `x`, not 0, rounded in the mode with the exponent range unbounded is smaller in magnitude
than every normal number (IEEE 754-2008 clause 7.5, R341). -/
def TinyAfterRounding (f : FpFormat) (rm : RoundMode) (x : ℝ) : Prop :=
  match rm with
  | .nearestEven => |x| < smallestNormal f - normalUnit f / 2
  | .towardZero => |x| < smallestNormal f
  | .towardPositive => -smallestNormal f < x ∧ x ≤ smallestNormal f - normalUnit f
  | .towardNegative => -(smallestNormal f - normalUnit f) ≤ x ∧ x < smallestNormal f

/-- `r` is the real number `x`, not 0, rounded to format `f` in mode `rm` (R341), its sign that of `x`. No V and no Z. O exactly
on overflow, and then I. U exactly when the result is inexact and tiny, detected after rounding or, where the implementation
does so, before (log 21). Without overflow the result is a finite number `v` with I exactly when it is not `x`, and no finite
number of the format lies nearer to `x` (to nearest, an even pattern on a tie), between `x` and `v` (directed modes), or is
larger in magnitude without passing `x` (toward zero). With overflow the result is the infinity of the sign, or the largest
finite number where the mode does not round outward. -/
structure RoundedTo (f : FpFormat) (rm : RoundMode) (x : ℝ) (r : FpResult) : Prop where
  width : r.bits < 2 * signWeight f
  sign : signOf f r.bits = true ↔ x < 0
  invalid : r.signals.getLsbD 4 = false
  divByZero : r.signals.getLsbD 3 = false
  overflow : r.signals.getLsbD 2 = true ↔ Overflows f rm x
  underflow : r.signals.getLsbD 1 = true ↔
    r.signals.getLsbD 0 = true ∧
      (TinyAfterRounding f rm x ∨ Config.tininessBeforeRounding = true ∧ |x| < smallestNormal f)
  finite : ¬ Overflows f rm x →
    ∃ v, valueOf f r.bits = some v ∧ (r.signals.getLsbD 0 = true ↔ (v : ℝ) ≠ x) ∧
      ∀ (z : Nat) (w : ℚ), valueOf f z = some w →
        match rm with
        | .nearestEven => |(v : ℝ) - x| ≤ |(w : ℝ) - x| ∧ (|(v : ℝ) - x| = |(w : ℝ) - x| → w = v ∨ r.bits % 2 = 0)
        | .towardZero => 0 ≤ (v : ℝ) * x ∧ |(v : ℝ)| ≤ |x| ∧ (|(w : ℝ)| ≤ |x| → |w| ≤ |v|)
        | .towardPositive => x ≤ v ∧ (x ≤ w → v ≤ w)
        | .towardNegative => (v : ℝ) ≤ x ∧ ((w : ℝ) ≤ x → w ≤ v)
  overflowed : Overflows f rm x →
    r.signals.getLsbD 0 = true ∧
      (rm = .nearestEven ∨ rm = .towardPositive ∧ 0 < x ∨ rm = .towardNegative ∧ x < 0 →
        unpack f r.bits = .inf (decide (x < 0))) ∧
      (rm = .towardZero ∨ rm = .towardPositive ∧ x < 0 ∨ rm = .towardNegative ∧ 0 < x →
        ∃ v, valueOf f r.bits = some v ∧ |(v : ℝ)| = topOf f - topUnit f)

/-- The pattern of a zero of a sign (R341). -/
def zeroBits (f : FpFormat) (neg : Bool) : Nat := if neg then signWeight f else 0

/-- The pattern of an infinity of a sign (R341). -/
def infBits (f : FpFormat) (neg : Bool) : Nat := zeroBits f neg + infPattern f

/-- The result of an invalid operation: V alone, and a quiet NaN (R341, R342). -/
def Invalid (f : FpFormat) (r : FpResult) : Prop := r.signals = 16#5 ∧ isQuiet f r.bits = true

/-- A number, finite or infinite, that is not 0. -/
def NotZero (f : FpFormat) (x : Nat) : Prop := isNan f x = false ∧ valueOf f x ≠ some 0

/-- The product of the operands is infinite (R305, R344). -/
def ProductInfinite (f : FpFormat) (x y : Nat) : Prop :=
  ((∃ p, unpack f x = .inf p) ∧ NotZero f y) ∨ (NotZero f x ∧ ∃ q, unpack f y = .inf q)

/-- The operands are an infinity and a zero (R305, R344). -/
def InfinityTimesZero (f : FpFormat) (x y : Nat) : Prop :=
  ((∃ p, unpack f x = .inf p) ∧ valueOf f y = some 0) ∨ (valueOf f x = some 0 ∧ ∃ q, unpack f y = .inf q)

/-- Rounding is correct in every mode, for every exact value `(-1)^neg * m * 2^e` other than 0 (R341). -/
def Obligations.RoundingIsCorrect : Prop :=
  ∀ (f : FpFormat) (rm : RoundMode) (neg : Bool) (m : Nat) (e : Int), 0 < m →
    RoundedTo f rm ((if neg then -1 else 1) * (m : ℝ) * (2 : ℝ) ^ e) (roundPack f rm neg m e false)

/-- Sums, differences, products, fused products with an addend, and conversions to a format are the exact result rounded
once; an exact result 0 is a zero that signals nothing, of the common sign of the addends or else plus, minus only toward minus
infinity, of the exclusive or of the signs for a product (R301 to R306, R309 to R316, R341, R344, R363 to R366). -/
def SumsAndProducts : Prop :=
  ∀ (f g : FpFormat) (rm : RoundMode) (x y z : Nat) (a b c : ℚ) (n : Int),
    valueOf f x = some a → valueOf f y = some b → valueOf f z = some c →
    let sum := fun p q : Bool => if p = q then p else decide (rm = .towardNegative)
    let product := signOf f x != signOf f y
    ∀ p ∈ [(f, fpAdd f rm x y, a + b, sum (signOf f x) (signOf f y)),
        (f, fpSub f rm x y, a - b, sum (signOf f x) (!signOf f y)), (f, fpMul f rm x y, a * b, product),
        (f, fpFma f rm x y z, a * b + c, sum product (signOf f z)), (g, fpConvert f g rm x, a, signOf f x),
        (f, fpFromInt f rm n, (n : ℚ), false)],
      (p.2.2.1 ≠ 0 → RoundedTo p.1 rm p.2.2.1 p.2.1) ∧
      (p.2.2.1 = 0 → p.2.1 = { bits := zeroBits p.1 p.2.2.2, signals := 0#5 })

/-- Infinite operands (R301 to R306, R309 to R316, R341, R344, R363, R364). A sum with an infinity is that infinity, of
unlike infinities invalid; a product with an infinity is an infinity of the exclusive or of the signs, with a zero invalid; a
fused sum is the sum of the product and the addend; a conversion keeps an infinity. Nothing else is signalled. -/
def InfiniteSumsAndProducts : Prop :=
  ∀ (f g : FpFormat) (rm : RoundMode) (x y z : Nat) (p q : Bool) (b : ℚ),
    let product := signOf f x != signOf f y
    (unpack f x = .inf p → unpack f y = .inf q →
      (if p = q then fpAdd f rm x y = { bits := infBits f p, signals := 0#5 } else Invalid f (fpAdd f rm x y)) ∧
      (if p = q then Invalid f (fpSub f rm x y) else fpSub f rm x y = { bits := infBits f p, signals := 0#5 })) ∧
    (unpack f x = .inf p → valueOf f y = some b →
      fpAdd f rm x y = { bits := infBits f p, signals := 0#5 } ∧
      fpAdd f rm y x = { bits := infBits f p, signals := 0#5 } ∧
      fpSub f rm x y = { bits := infBits f p, signals := 0#5 } ∧
      fpSub f rm y x = { bits := infBits f (!p), signals := 0#5 }) ∧
    (ProductInfinite f x y → fpMul f rm x y = { bits := infBits f product, signals := 0#5 } ∧
      (valueOf f z = some b ∨ unpack f z = .inf product →
        fpFma f rm x y z = { bits := infBits f product, signals := 0#5 }) ∧
      (unpack f z = .inf (!product) → Invalid f (fpFma f rm x y z))) ∧
    (InfinityTimesZero f x y → Invalid f (fpMul f rm x y) ∧ (isNan f z = false → Invalid f (fpFma f rm x y z))) ∧
    (valueOf f x ≠ none → valueOf f y ≠ none → unpack f z = .inf p →
      fpFma f rm x y z = { bits := infBits f p, signals := 0#5 }) ∧
    (unpack f x = .inf p → fpConvert f g rm x = { bits := infBits g p, signals := 0#5 })

/-- Sums, differences, products, fused products with an addend, and conversions to a format are the exact result rounded
once, with the sign of an exact zero, and with infinite operands the infinity or the invalid result of IEEE 754-2008 (R301 to
R306, R309 to R316, R341, R344, R363 to R366). -/
def Obligations.SumsAndProductsAreRounded : Prop := SumsAndProducts ∧ InfiniteSumsAndProducts

/-- Quotients, reciprocals and square roots are the exact real number rounded once, reciprocal square roots the rounded
reciprocal of the rounded root, with the signals of both (R307, R308, R329 to R334, R341; two roundings, log 24). Of zeros: 0
divided by a number is a zero and a number divided by 0 an infinity with Z alone, of the exclusive or of the signs; 0 divided
by 0 is invalid; the root of a zero is that zero. Of infinities: divided by a number, an infinity; a number divided by one, a
zero; one by another invalid; the root of plus infinity itself, the reciprocal root of it plus 0. The roots of numbers and
infinities below 0 are invalid. -/
def Obligations.QuotientsAndRootsAreRounded : Prop :=
  ∀ (f : FpFormat) (rm : RoundMode) (x y : Nat) (a b : ℚ) (p q : Bool),
    let sign := signOf f x != signOf f y
    (valueOf f x = some a → valueOf f y = some b →
      (a ≠ 0 → b ≠ 0 → RoundedTo f rm ((a / b : ℚ) : ℝ) (fpDiv f rm x y)) ∧
      (a = 0 → b ≠ 0 → fpDiv f rm x y = { bits := zeroBits f sign, signals := 0#5 }) ∧
      (a ≠ 0 → b = 0 → fpDiv f rm x y = { bits := infBits f sign, signals := 8#5 }) ∧
      (a = 0 → b = 0 → Invalid f (fpDiv f rm x y))) ∧
    (valueOf f x = some a →
      (a ≠ 0 → RoundedTo f rm ((1 / a : ℚ) : ℝ) (fpRecip f rm x)) ∧
      (a = 0 → fpRecip f rm x = { bits := infBits f (signOf f x), signals := 8#5 } ∧
        fpRsqrt f rm x = { bits := infBits f (signOf f x), signals := 8#5 } ∧
        fpSqrt f rm x = { bits := zeroBits f (signOf f x), signals := 0#5 }) ∧
      (0 < a → RoundedTo f rm (Real.sqrt a) (fpSqrt f rm x) ∧
        ∃ v, valueOf f (fpSqrt f rm x).bits = some v ∧ ∃ r, RoundedTo f rm ((1 / v : ℚ) : ℝ) r ∧
          fpRsqrt f rm x = { bits := r.bits, signals := (fpSqrt f rm x).signals ||| r.signals }) ∧
      (a < 0 → Invalid f (fpSqrt f rm x) ∧ Invalid f (fpRsqrt f rm x))) ∧
    (unpack f x = .inf p → unpack f y = .inf q → Invalid f (fpDiv f rm x y)) ∧
    (unpack f x = .inf p → valueOf f y = some b →
      fpDiv f rm x y = { bits := infBits f sign, signals := 0#5 } ∧
      fpDiv f rm y x = { bits := zeroBits f sign, signals := 0#5 }) ∧
    (unpack f x = .inf p → fpRecip f rm x = { bits := zeroBits f p, signals := 0#5 } ∧
      (p = false → fpSqrt f rm x = { bits := infBits f false, signals := 0#5 } ∧
        fpRsqrt f rm x = { bits := zeroBits f false, signals := 0#5 }) ∧
      (p = true → Invalid f (fpSqrt f rm x) ∧ Invalid f (fpRsqrt f rm x)))

/-- Comparison is the order of the numbers: unordered exactly with a NaN; finite operands by their values, so that plus and
minus zero are equal; minus infinity below and plus infinity above every finite number (R360, R361). -/
def Obligations.CompareIsTheOrder : Prop :=
  ∀ (f : FpFormat) (x y : Nat),
    (fpCompare f x y = .un ↔ isNan f x = true ∨ isNan f y = true) ∧
    (∀ a b, valueOf f x = some a → valueOf f y = some b →
      (fpCompare f x y = .lt ↔ a < b) ∧ (fpCompare f x y = .eq ↔ a = b) ∧ (fpCompare f x y = .gt ↔ b < a)) ∧
    (∀ a, valueOf f x = some a → unpack f y = .inf true → fpCompare f x y = .gt) ∧
    (∀ a, valueOf f x = some a → unpack f y = .inf false → fpCompare f x y = .lt) ∧
    (∀ b, valueOf f y = some b → unpack f x = .inf true → fpCompare f x y = .lt) ∧
    (∀ b, valueOf f y = some b → unpack f x = .inf false → fpCompare f x y = .gt) ∧
    (∀ p q, unpack f x = .inf p → unpack f y = .inf q →
      fpCompare f x y = if p = q then .eq else if p then .lt else .gt)

/-- Conversion to a signed 32-bit integer: the value rounded to an integer in the mode; in range it is the result, with I
alone signalled exactly when it is not the value; out of range, and for NaN and infinity, V alone is signalled and the
result is `FTINT_INVALID` of the pattern, which nothing constrains (R377; log 25). -/
def Obligations.ConvertToIntegerIsCorrect : Prop :=
  ∀ (f : FpFormat) (rm : RoundMode) (x : Nat),
    (valueOf f x = none →
      (fpToInt f rm x).signals = 16#5 ∧ (fpToInt f rm x).bits = (Config.ftintInvalid f x).toNat) ∧
    ∀ v, valueOf f x = some v →
      ∃ n : Int,
        (match rm with
          | .nearestEven => |(n : ℚ) - v| ≤ 1 / 2 ∧ (|(n : ℚ) - v| = 1 / 2 → n % 2 = 0)
          | .towardZero => n = (if 0 ≤ v then ⌊v⌋ else ⌈v⌉)
          | .towardPositive => n = ⌈v⌉
          | .towardNegative => n = ⌊v⌋) ∧
        (-2 ^ 31 ≤ n → n ≤ 2 ^ 31 - 1 → (fpToInt f rm x).bits = (BitVec.ofInt 32 n).toNat ∧
          (fpToInt f rm x).signals = if (n : ℚ) = v then 0#5 else 1#5) ∧
        (n < -2 ^ 31 ∨ 2 ^ 31 - 1 < n →
          (fpToInt f rm x).signals = 16#5 ∧ (fpToInt f rm x).bits = (Config.ftintInvalid f x).toNat)

/-- NaN operands of every arithmetic operation: a signalling NaN signals V and gives a quiet NaN; a quiet NaN alone signals
nothing and gives a quiet NaN, except that the maximum and minimum operations give the other operand when exactly one is a
NaN, and that a fused product of infinity and zero with a quiet NaN signals V where the implementation does so (log 23). Of two
numbers the maximum and minimum operations give the larger and the smaller, by magnitude where magnitudes differ, bit for bit
(R342, R344, R345; of two zeros either, log 22). -/
def Obligations.NanOperandsAndMaxMin : Prop :=
  ∀ (f g : FpFormat) (rm : RoundMode) (x y z : Nat),
    (∀ op ∈ [fpAdd f rm, fpSub f rm, fpMul f rm, fpDiv f rm],
      (isSignalling f x = true ∨ isSignalling f y = true → Invalid f (op x y)) ∧
      (isQuiet f x = true → isSignalling f y = false → (op x y).signals = 0#5 ∧ isQuiet f (op x y).bits = true) ∧
      (isSignalling f x = false → isQuiet f y = true → (op x y).signals = 0#5 ∧ isQuiet f (op x y).bits = true)) ∧
    (isSignalling f x = true ∨ isSignalling f y = true ∨ isSignalling f z = true → Invalid f (fpFma f rm x y z)) ∧
    (isSignalling f x = false → isSignalling f y = false → isSignalling f z = false →
      (isQuiet f x = true ∨ isQuiet f y = true ∨ isQuiet f z = true ∧ ¬ InfinityTimesZero f x y →
        (fpFma f rm x y z).signals = 0#5 ∧ isQuiet f (fpFma f rm x y z).bits = true) ∧
      (isQuiet f z = true → InfinityTimesZero f x y →
        (fpFma f rm x y z).signals = (if Config.fmaInfZeroQnanInvalid then 16#5 else 0#5) ∧
          isQuiet f (fpFma f rm x y z).bits = true)) ∧
    (∀ op ∈ [fpMax f, fpMin f, fpMaxMag f, fpMinMag f],
      (isSignalling f x = true ∨ isSignalling f y = true → Invalid f (op x y)) ∧
      (isQuiet f x = true → isQuiet f y = true → (op x y).signals = 0#5 ∧ isQuiet f (op x y).bits = true) ∧
      (isQuiet f x = true → isNan f y = false → op x y = { bits := y, signals := 0#5 }) ∧
      (isNan f x = false → isQuiet f y = true → op x y = { bits := x, signals := 0#5 }) ∧
      (isNan f x = false → isNan f y = false → (op x y).signals = 0#5 ∧ ((op x y).bits = x ∨ (op x y).bits = y))) ∧
    (fpCompare f x y = .lt → (fpMax f x y).bits = y ∧ (fpMin f x y).bits = x) ∧
    (fpCompare f x y = .gt → (fpMax f x y).bits = x ∧ (fpMin f x y).bits = y) ∧
    (∀ a b, valueOf f x = some a → valueOf f y = some b →
      (|a| < |b| → (fpMaxMag f x y).bits = y ∧ (fpMinMag f x y).bits = x) ∧
      (|b| < |a| → (fpMaxMag f x y).bits = x ∧ (fpMinMag f x y).bits = y) ∧
      (|a| = |b| → a < b → (fpMaxMag f x y).bits = y ∧ (fpMinMag f x y).bits = x) ∧
      (|a| = |b| → b < a → (fpMaxMag f x y).bits = x ∧ (fpMinMag f x y).bits = y)) ∧
    (∀ p b, unpack f x = .inf p → valueOf f y = some b →
      (fpMaxMag f x y).bits = x ∧ (fpMinMag f x y).bits = y ∧ (fpMaxMag f y x).bits = x ∧ (fpMinMag f y x).bits = y) ∧
    (unpack f x = .inf false → unpack f y = .inf true →
      (fpMaxMag f x y).bits = x ∧ (fpMinMag f x y).bits = y ∧ (fpMaxMag f y x).bits = x ∧ (fpMinMag f y x).bits = y) ∧
    (∀ op ∈ [(g, fpConvert f g rm), (f, fpSqrt f rm), (f, fpRecip f rm), (f, fpRsqrt f rm)],
      (isSignalling f x = true → Invalid op.1 (op.2 x)) ∧
      (isQuiet f x = true → (op.2 x).signals = 0#5 ∧ isQuiet op.1 (op.2 x).bits = true))
end

