-- ==== Sys2Proof/Laws/Bits.lean ====
section
/-! SUPPORT. The laws of bit fields: each operation bit by bit, reading a field back, and masks of reserved bits. -/

namespace Sys2Proof

/-! ### Bit by bit -/

theorem field_getLsbD (w : Word) (lo n i : Nat) : (field w lo n).getLsbD i = (decide (i < n) && w.getLsbD (lo + i)) := by
  simp [field, BitVec.getLsbD_extractLsb']

theorem place_getLsbD {n : Nat} (v : BitVec n) (lo i : Nat) :
    (place v lo).getLsbD i = (decide (i < 32) && decide (lo ≤ i) && v.getLsbD (i - lo)) := by
  simp only [place, BitVec.getLsbD_shiftLeft, BitVec.getLsbD_setWidth]
  by_cases h : i < 32
  · have : i - lo < 32 := by omega
    by_cases h2 : i < lo
    · have h3 : ¬ lo ≤ i := by omega
      simp [h, h2, h3]
    · have h3 : lo ≤ i := by omega
      simp [h, h2, h3, this]
  · simp [h]

theorem ones_getLsbD (lo n i : Nat) :
    (ones lo n).getLsbD i = (decide (i < 32) && decide (lo ≤ i) && decide (i < lo + n)) := by
  rw [ones, place_getLsbD, BitVec.getLsbD_allOnes]
  by_cases h : lo ≤ i
  · congr 1
    exact decide_eq_decide.mpr (by omega)
  · simp [h]

theorem setField_getLsbD {n : Nat} (w : Word) (lo : Nat) (v : BitVec n) (i : Nat) :
    (setField w lo v).getLsbD i =
      if i < 32 ∧ lo ≤ i ∧ i < lo + n then v.getLsbD (i - lo) else w.getLsbD i := by
  simp only [setField, BitVec.getLsbD_or, BitVec.getLsbD_and, BitVec.getLsbD_not, place_getLsbD, ones_getLsbD]
  by_cases h : i < 32
  · by_cases h1 : lo ≤ i
    · by_cases h2 : i < lo + n
      · simp [h, h1, h2]
      · have : v.getLsbD (i - lo) = false := BitVec.getLsbD_of_ge _ _ (by omega)
        simp [h, h1, h2, this]
    · simp [h, h1]
  · have : w.getLsbD i = false := BitVec.getLsbD_of_ge _ _ (by omega)
    simp [h, this]

theorem bit_setBit (w : Word) (i : Nat) (b : Bool) (j : Nat) (h : i < 32) :
    bit (setBit w i b) j = if j = i then b else bit w j := by
  simp only [bit, setBit, setField_getLsbD]
  by_cases hj : j = i
  · subst hj
    simp [h]
  · rw [if_neg (by omega), if_neg hj]

/-! ### Reading fields back -/

/-- A field read after it was written. -/
theorem field_setField_same {n : Nat} (w : Word) (lo : Nat) (v : BitVec n) (h : lo + n ≤ 32) :
    field (setField w lo v) lo n = v := by
  apply BitVec.eq_of_getLsbD_eq
  intro i hi
  rw [field_getLsbD, setField_getLsbD, if_pos (by omega)]
  simp [hi]

/-- A field read after another one was written. -/
theorem field_setField_other {n : Nat} (w : Word) (lo : Nat) (v : BitVec n) (lo' n' : Nat)
    (h : lo' + n' ≤ lo ∨ lo + n ≤ lo') : field (setField w lo v) lo' n' = field w lo' n' := by
  apply BitVec.eq_of_getLsbD_eq
  intro i hi
  rw [field_getLsbD, field_getLsbD, setField_getLsbD, if_neg (by omega)]

/-- A field of a word with only that field placed. -/
theorem field_place_same {n : Nat} (v : BitVec n) (lo : Nat) (h : lo + n ≤ 32) : field (place v lo) lo n = v := by
  apply BitVec.eq_of_getLsbD_eq
  intro i hi
  rw [field_getLsbD, place_getLsbD]
  have : lo + i < 32 := by omega
  simp [hi, this]

/-- A field of a word with another field placed. -/
theorem field_place_other {m : Nat} (v : BitVec m) (lo lo' n : Nat) (h : lo' + n ≤ lo ∨ lo + m ≤ lo') :
    field (place v lo) lo' n = 0#n := by
  apply BitVec.eq_of_getLsbD_eq
  intro i hi
  rw [field_getLsbD, place_getLsbD]
  by_cases h1 : lo ≤ lo' + i
  · have : v.getLsbD (lo' + i - lo) = false := BitVec.getLsbD_of_ge _ _ (by omega)
    simp [this]
  · simp [h1]

theorem field_or (a b : Word) (lo n : Nat) : field (a ||| b) lo n = field a lo n ||| field b lo n := by
  apply BitVec.eq_of_getLsbD_eq
  intro i hi
  simp only [field_getLsbD, BitVec.getLsbD_or, hi, decide_true, Bool.true_and]

theorem field_and (a b : Word) (lo n : Nat) : field (a &&& b) lo n = field a lo n &&& field b lo n := by
  apply BitVec.eq_of_getLsbD_eq
  intro i hi
  simp only [field_getLsbD, BitVec.getLsbD_and, hi, decide_true, Bool.true_and]

/-! ### Masks -/

theorem and_eq_zero_iff (a m : Word) : a &&& m = 0#32 ↔ ∀ i, m.getLsbD i = true → a.getLsbD i = false := by
  constructor
  · intro h i hm
    have := congrArg (fun w => w.getLsbD i) h
    simpa [BitVec.getLsbD_and, hm] using this
  · intro h
    apply BitVec.eq_of_getLsbD_eq
    intro i hi
    rw [BitVec.getLsbD_and]
    by_cases hm : m.getLsbD i = true
    · simp [h i hm]
    · simp [hm]

/-- The bits outside a mask are 0 after masking. -/
theorem masked_reserved (v m : Word) : v &&& m &&& ~~~m = 0#32 := by
  simp [BitVec.and_assoc]

/-- A disjunction has no bits of a mask when its parts have none. -/
theorem or_and_eq_zero {a b m : Word} (ha : a &&& m = 0#32) (hb : b &&& m = 0#32) : (a ||| b) &&& m = 0#32 := by
  rw [and_eq_zero_iff] at *
  intro i hi
  simp [BitVec.getLsbD_or, ha i hi, hb i hi]

/-- A conjunction has no bits of a mask when one part has none. -/
theorem and_and_eq_zero {a m : Word} (b : Word) (ha : a &&& m = 0#32) : (a &&& b) &&& m = 0#32 := by
  rw [and_eq_zero_iff] at *
  intro i hi
  simp [BitVec.getLsbD_and, ha i hi]

/-- A field inside the defined bits, placed, leaves the reserved bits 0. -/
theorem place_reserved {n : Nat} (v : BitVec n) (lo : Nat) {m : Word} (h : ones lo n &&& m = 0#32) :
    place v lo &&& m = 0#32 := by
  rw [and_eq_zero_iff] at *
  intro i hi
  have ho := h i hi
  rw [ones_getLsbD] at ho
  rw [place_getLsbD]
  by_cases h1 : i < 32
  · by_cases h2 : lo ≤ i
    · have h3 : ¬ i < lo + n := by simpa [h1, h2] using ho
      have : v.getLsbD (i - lo) = false := BitVec.getLsbD_of_ge _ _ (by omega)
      simp [this]
    · simp [h2]
  · simp [h1]

/-- Writing a field inside the defined bits leaves the reserved bits 0. -/
theorem setField_reserved {n : Nat} {w m : Word} (lo : Nat) (v : BitVec n) (hw : w &&& m = 0#32)
    (h : ones lo n &&& m = 0#32) : setField w lo v &&& m = 0#32 :=
  or_and_eq_zero (and_and_eq_zero _ hw) (place_reserved v lo h)

theorem setBit_reserved {w m : Word} (i : Nat) (b : Bool) (hw : w &&& m = 0#32) (h : ones i 1 &&& m = 0#32) :
    setBit w i b &&& m = 0#32 := setField_reserved i (BitVec.ofBool b) hw h

/-! ### Scaled offsets (R124) -/

/-- A scaled offset is four times the signed field. -/
theorem scaled_eq {n : Nat} (v : BitVec n) : scaled v = BitVec.ofInt 32 (4 * v.toInt) := by
  have h : (v ++ 0#2).toInt = 4 * v.toInt := by
    rw [BitVec.toInt_append]
    by_cases hn : n = 0
    · subst hn; simp [BitVec.eq_nil v]
    · simp [hn, Int.mul_comm]
  rw [scaled, sext32, BitVec.signExtend, h]

/-- A sign-extended field is the integer it stands for. -/
theorem sext32_eq {n : Nat} (v : BitVec n) : sext32 v = BitVec.ofInt 32 v.toInt := rfl

end Sys2Proof
end

