-- ==== Sys2Proof/Laws/Memory.lean ====
section
/-! SUPPORT. The laws of physical memory: what a read gives after each operation, that every operation keeps the canonical
form, and that equal reads of canonical memories mean equal memories. -/

namespace Sys2Proof.Machine

/-! ### Reads -/

@[simp] theorem Memory.read_nil (x : Nat) : Memory.read [] x = Memory.unlisted := rfl

theorem Memory.read_erase (m : Memory) (x y : Nat) :
    (m.erase x).read y = if y = x then Memory.unlisted else m.read y := by
  induction m with
  | nil => simp [Memory.erase, Memory.read]
  | cons c m ih =>
    have ih' : Memory.read (List.filter (fun c => c.1 != x) m) y = if y = x then Memory.unlisted else Memory.read m y :=
      ih
    simp only [Memory.erase, List.filter_cons]
    by_cases hc : c.1 = x
    · by_cases hy : y = x
      · subst hy; simpa [hc] using ih'
      · simp [hc, Memory.read, hy, ih']
    · by_cases hy : y = c.1
      · subst hy; simp [hc, Memory.read]
      · simp [hc, Memory.read, hy, ih']

theorem Memory.read_insert (x : Nat) (v : Byte) (m : Memory) (h : m.read x = Memory.unlisted) (y : Nat)
    (hx : ∀ c ∈ m, c.1 ≠ x) : (Memory.insert x v m).read y = if y = x then v else m.read y := by
  induction m with
  | nil => simp [Memory.insert, Memory.read]
  | cons c m ih =>
    have hc : c.1 ≠ x := hx c (List.mem_cons_self ..)
    have hm : Memory.read m x = Memory.unlisted := by simpa [Memory.read, Ne.symm hc] using h
    have ih' := ih hm (fun d hd => hx d (List.mem_cons_of_mem _ hd))
    simp only [Memory.insert]
    split
    · simp [Memory.read]
    · simp only [Memory.read, ih']
      by_cases hy : y = c.1
      · subst hy; simp [hc]
      · simp [hy]

theorem Memory.erase_ne (m : Memory) (x : Nat) : ∀ c ∈ m.erase x, c.1 ≠ x := by
  intro c hc
  simpa using (List.mem_filter.mp hc).2

/-- Reading after a write: the byte written, every other byte as before. -/
theorem Memory.read_write (m : Memory) (x : Nat) (v : Byte) (y : Nat) :
    (m.write x v).read y = if y = x then v else m.read y := by
  unfold Memory.write
  split
  · next h => rw [Memory.read_erase]; simp [h]
  · rw [Memory.read_insert _ _ _ (by simp [Memory.read_erase]) _ (Memory.erase_ne m x), Memory.read_erase]
    by_cases hy : y = x <;> simp [hy]

/-- Reading after a store of `n` bytes: byte `x - a` of the value inside, as before outside (R83, R85). -/
theorem Memory.read_store (m : Memory) (a n v x : Nat) :
    (m.store a n v).read x = if a ≤ x ∧ x < a + n then BitVec.ofNat 8 (v / 256 ^ (x - a)) else m.read x := by
  induction n generalizing m a v with
  | zero =>
    have : ¬ (a ≤ x ∧ x < a + 0) := by omega
    simp only [Memory.store, if_neg this]
  | succ n ih =>
    simp only [Memory.store, ih, Memory.read_write]
    by_cases h1 : x = a
    · subst h1
      have h2 : ¬ (x + 1 ≤ x ∧ x < x + 1 + n) := by omega
      have h3 : x ≤ x ∧ x < x + (n + 1) := by omega
      simp only [if_neg h2, if_pos h3, if_true]
      simp
    · by_cases h2 : a + 1 ≤ x ∧ x < a + 1 + n
      · have h3 : a ≤ x ∧ x < a + (n + 1) := by omega
        have h4 : x - a = x - (a + 1) + 1 := by omega
        simp only [if_pos h2, if_pos h3]
        rw [h4, Nat.pow_succ', ← Nat.div_div_eq_div_mul]
      · have h3 : ¬ (a ≤ x ∧ x < a + (n + 1)) := by omega
        simp only [if_neg h2, if_neg h3, if_neg h1]

theorem Memory.read_store_outside (m : Memory) (a n v x : Nat) (h : x < a ∨ a + n ≤ x) :
    (m.store a n v).read x = m.read x := by
  rw [Memory.read_store, if_neg (by omega)]

theorem Memory.read_store_inside (m : Memory) (a n v i : Nat) (h : i < n) :
    (m.store a n v).read (a + i) = BitVec.ofNat 8 (v / 256 ^ i) := by
  rw [Memory.read_store, if_pos (by omega), Nat.add_sub_cancel_left]

theorem Memory.read_writeBytes (m : Memory) (a : Nat) (bs : List Byte) (x : Nat) :
    (m.writeBytes a bs).read x = if h : a ≤ x ∧ x - a < bs.length then bs[x - a]'h.2 else m.read x := by
  induction bs generalizing m a with
  | nil => simp [Memory.writeBytes]
  | cons b bs ih =>
    simp only [Memory.writeBytes, ih, Memory.read_write]
    by_cases h1 : x = a
    · subst h1
      have h2 : ¬ (x + 1 ≤ x ∧ x - (x + 1) < bs.length) := by omega
      simp
    · by_cases h2 : a + 1 ≤ x ∧ x - (a + 1) < bs.length
      · have h3 : a ≤ x ∧ x - a < (b :: bs).length := by simp only [List.length_cons]; omega
        have h4 : x - a = x - (a + 1) + 1 := by omega
        rw [dif_pos h2, dif_pos h3]
        simp only [h4, List.getElem_cons_succ]
      · have h3 : ¬ (a ≤ x ∧ x - a < (b :: bs).length) := by simp only [List.length_cons]; omega
        rw [dif_neg h2, dif_neg h3, if_neg h1]

/-! ### Loads as bytes -/

theorem Memory.load_one (m : Memory) (a : Nat) : m.load a 1 = (m.read a).toNat := by simp [Memory.load]

/-- A byte loaded. -/
theorem Memory.load_byte (m : Memory) (a : Nat) : BitVec.ofNat 8 (m.load a 1) = m.read a := by
  rw [Memory.load_one, BitVec.ofNat_toNat, BitVec.setWidth_eq]

/-- A number whose low byte is `b`: the low byte and the rest, as bits. -/
theorem ofNat_byte_cons (w : Nat) (b : Byte) (k : Nat) :
    BitVec.ofNat (w + 8) (b.toNat + 256 * k) = BitVec.ofNat w k ++ b := by
  apply BitVec.eq_of_toNat_eq
  have hb := b.isLt
  rw [BitVec.toNat_append, BitVec.toNat_ofNat, BitVec.toNat_ofNat, ← Nat.shiftLeft_add_eq_or_of_lt hb, Nat.shiftLeft_eq,
    Nat.pow_add, Nat.mul_comm (2 ^ w) (2 ^ 8), Nat.mod_mul]
  have h1 : (b.toNat + 256 * k) / 2 ^ 8 = k := by omega
  have h2 : (b.toNat + 256 * k) % 2 ^ 8 = b.toNat := by omega
  rw [h1, h2]
  ring

/-- A halfword loaded: the byte at the lower address is less significant (R85). -/
theorem Memory.load_half (m : Memory) (a : Nat) : BitVec.ofNat 16 (m.load a 2) = m.read (a + 1) ++ m.read a := by
  show BitVec.ofNat (8 + 8) ((m.read a).toNat + 256 * m.load (a + 1) 1) = _
  rw [ofNat_byte_cons, Memory.load_byte]

/-- A word loaded (R85). -/
theorem Memory.load_word (m : Memory) (a : Nat) :
    BitVec.ofNat 32 (m.load a 4) = m.read (a + 3) ++ m.read (a + 2) ++ m.read (a + 1) ++ m.read a := by
  show BitVec.ofNat (24 + 8) ((m.read a).toNat + 256 * m.load (a + 1) 3) = _
  rw [ofNat_byte_cons]
  congr 1
  show BitVec.ofNat (16 + 8) ((m.read (a + 1)).toNat + 256 * m.load (a + 2) 2) = _
  rw [ofNat_byte_cons]
  congr 1
  exact Memory.load_half m (a + 2)

/-- The low word of a doubleword loaded. -/
theorem Memory.load_double_low (m : Memory) (a : Nat) :
    BitVec.ofNat 32 (m.load a 8) = BitVec.ofNat 32 (m.load a 4) := by
  apply BitVec.eq_of_toNat_eq
  simp only [BitVec.toNat_ofNat, Memory.load]
  omega

/-- The high word of a doubleword loaded. -/
theorem Memory.load_double_high (m : Memory) (a : Nat) :
    BitVec.ofNat 32 (m.load a 8 / 2 ^ 32) = BitVec.ofNat 32 (m.load (a + 4) 4) := by
  apply BitVec.eq_of_toNat_eq
  simp only [BitVec.toNat_ofNat, Memory.load, Nat.add_assoc, Nat.reduceAdd]
  have h0 := (m.read a).isLt
  have h1 := (m.read (a + 1)).isLt
  have h2 := (m.read (a + 2)).isLt
  have h3 := (m.read (a + 3)).isLt
  omega

/-! ### The bytes a fetch may still return (R102, R276) -/

theorem mem_overwritten (m : Memory) (a n : Nat) (own : Bool) (e : StaleByte) :
    e ∈ overwritten m a n own ↔ ∃ i < n, e = { addr := a + i, old := m.read (a + i), own := own } := by
  simp [overwritten, eq_comm]

/-- A byte this core stores over: every older value of it becomes this core's to end, the others stay as they are. -/
theorem mem_ownedBy (a n : Nat) (stale : List StaleByte) (e : StaleByte) :
    e ∈ ownedBy a n stale ↔
      (e ∈ stale ∧ ¬ (a ≤ e.addr ∧ e.addr < a + n)) ∨
        ∃ d ∈ stale, (a ≤ d.addr ∧ d.addr < a + n) ∧ e = { d with own := true } := by
  simp only [ownedBy, List.mem_map, Bool.and_eq_true, decide_eq_true_eq]
  constructor
  · rintro ⟨d, hd, rfl⟩
    split
    · next h => exact .inr ⟨d, hd, h, rfl⟩
    · next h => exact .inl ⟨hd, h⟩
  · rintro (⟨he, h⟩ | ⟨d, hd, h, rfl⟩)
    · exact ⟨e, he, if_neg h⟩
    · exact ⟨d, hd, if_pos h⟩

/-- The old value that an overwriting leaves at one address. -/
theorem filter_overwritten (m : Memory) (a n : Nat) (own : Bool) (x : Nat) :
    (overwritten m a n own).filter (fun e => e.addr == x) =
      if a ≤ x ∧ x < a + n then [{ addr := x, old := m.read x, own := own }] else [] := by
  induction n with
  | zero => rw [if_neg (by omega)]; rfl
  | succ n ih =>
    unfold overwritten at *
    rw [List.range_succ, List.map_append, List.filter_append, ih]
    by_cases h : x = a + n
    · subst h; simp
    · have h1 : (a + n == x) = false := by simpa using fun e => h e.symm
      have h2 : (a ≤ x ∧ x < a + (n + 1)) ↔ (a ≤ x ∧ x < a + n) := by omega
      simp [h1, h2]

/-- A store of this core changes no value that a fetch may still return, only who ends it. -/
theorem oldValues_ownedBy (a n : Nat) (stale : List StaleByte) (x : Nat) :
    ((ownedBy a n stale).filter (fun e => e.addr == x)).map (fun e => e.old) =
      (stale.filter (fun e => e.addr == x)).map (fun e => e.old) := by
  have h1 : ∀ e : StaleByte,
      (if a ≤ e.addr && e.addr < a + n then { e with own := true } else e).addr = e.addr := fun e => by split <;> rfl
  have h2 : ∀ e : StaleByte,
      (if a ≤ e.addr && e.addr < a + n then { e with own := true } else e).old = e.old := fun e => by split <;> rfl
  simp only [ownedBy, List.filter_map, List.map_map, Function.comp_def, h1, h2]

/-- At an address that is not stored to nothing changes. -/
theorem filter_ownedBy_outside (a n : Nat) (stale : List StaleByte) (x : Nat) (h : x < a ∨ a + n ≤ x) :
    (ownedBy a n stale).filter (fun e => e.addr == x) = stale.filter (fun e => e.addr == x) := by
  have h1 : ∀ e : StaleByte,
      (if a ≤ e.addr && e.addr < a + n then { e with own := true } else e).addr = e.addr := fun e => by split <;> rfl
  simp only [ownedBy, List.filter_map, Function.comp_def, h1]
  rw [List.map_congr_left (g := id) fun e he => ?_, List.map_id]
  have hx : e.addr = x := by simpa using (List.mem_filter.mp he).2
  rw [if_neg (by simp; omega)]
  rfl

/-! ### The canonical form -/

theorem Memory.wf_cons (c : Host.Cell) (m : Memory) :
    Memory.wf (c :: m) = true ↔ c.2 ≠ Memory.unlisted ∧ (∀ d ∈ m, c.1 < d.1) ∧ Memory.wf m = true := by
  simp [Memory.wf, and_assoc]

theorem Memory.wf_erase (m : Memory) (x : Nat) (h : m.wf = true) : (m.erase x).wf = true := by
  induction m with
  | nil => rfl
  | cons c m ih =>
    obtain ⟨h1, h2, h3⟩ := (Memory.wf_cons c m).mp h
    simp only [Memory.erase, List.filter_cons]
    split
    · exact (Memory.wf_cons _ _).mpr ⟨h1, fun d hd => h2 d (List.mem_filter.mp hd).1, ih h3⟩
    · exact ih h3

theorem Memory.mem_insert (x : Nat) (v : Byte) (m : Memory) (d : Host.Cell) (h : d ∈ Memory.insert x v m) :
    d = (x, v) ∨ d ∈ m := by
  induction m with
  | nil => simpa [Memory.insert] using h
  | cons c m ih =>
    simp only [Memory.insert] at h
    split at h
    · simpa using h
    · rcases List.mem_cons.mp h with h | h
      · exact .inr (h ▸ List.mem_cons_self ..)
      · rcases ih h with h | h
        · exact .inl h
        · exact .inr (List.mem_cons_of_mem _ h)

theorem Memory.wf_insert (x : Nat) (v : Byte) (m : Memory) (hv : v ≠ Memory.unlisted) (hx : ∀ c ∈ m, c.1 ≠ x)
    (h : m.wf = true) : (Memory.insert x v m).wf = true := by
  induction m with
  | nil => simp [Memory.insert, Memory.wf, hv]
  | cons c m ih =>
    obtain ⟨h1, h2, h3⟩ := (Memory.wf_cons c m).mp h
    simp only [Memory.insert]
    split
    · next hlt =>
      refine (Memory.wf_cons _ _).mpr ⟨hv, fun d hd => ?_, h⟩
      rcases List.mem_cons.mp hd with hd | hd
      · exact hd ▸ hlt
      · exact Nat.lt_trans hlt (h2 d hd)
    · next hlt =>
      have hc : c.1 ≠ x := hx c (List.mem_cons_self ..)
      refine (Memory.wf_cons _ _).mpr ⟨h1, fun d hd => ?_, ih (fun d hd => hx d (List.mem_cons_of_mem _ hd)) h3⟩
      rcases Memory.mem_insert x v m d hd with hd | hd
      · subst hd; show c.1 < x; omega
      · exact h2 d hd

/-- A write keeps the canonical form. -/
theorem Memory.wf_write (m : Memory) (x : Nat) (v : Byte) (h : m.wf = true) : (m.write x v).wf = true := by
  unfold Memory.write
  split
  · exact Memory.wf_erase m x h
  · next hv => exact Memory.wf_insert x v _ hv (Memory.erase_ne m x) (Memory.wf_erase m x h)

/-- A store keeps the canonical form. -/
theorem Memory.wf_store (m : Memory) (a n v : Nat) (h : m.wf = true) : (m.store a n v).wf = true := by
  induction n generalizing m a v with
  | zero => exact h
  | succ n ih => exact ih _ _ _ (Memory.wf_write m a _ h)

/-- A row of bytes written keeps the canonical form. -/
theorem Memory.wf_writeBytes (m : Memory) (a : Nat) (bs : List Byte) (h : m.wf = true) :
    (m.writeBytes a bs).wf = true := by
  induction bs generalizing m a with
  | nil => exact h
  | cons b bs ih => exact ih _ _ (Memory.wf_write m a b h)

theorem Memory.read_of_lt_all (m : Memory) (x : Nat) (h : ∀ d ∈ m, x < d.1) : m.read x = Memory.unlisted := by
  induction m with
  | nil => rfl
  | cons c m ih =>
    have hc : x ≠ c.1 := Nat.ne_of_lt (h c (List.mem_cons_self ..))
    simp only [Memory.read, if_neg hc]
    exact ih (fun d hd => h d (List.mem_cons_of_mem _ hd))

/-- Canonical memories that read alike are equal data. -/
theorem Memory.eq_of_read_eq (m n : Memory) (hm : m.wf = true) (hn : n.wf = true) (h : ∀ a, m.read a = n.read a) :
    m = n := by
  induction m generalizing n with
  | nil =>
    cases n with
    | nil => rfl
    | cons d n =>
      have := h d.1
      simp only [Memory.read, if_true] at this
      exact absurd this.symm ((Memory.wf_cons d n).mp hn).1
  | cons c m ih =>
    obtain ⟨h1, h2, h3⟩ := (Memory.wf_cons c m).mp hm
    cases n with
    | nil =>
      have := h c.1
      simp only [Memory.read, if_true] at this
      exact absurd this h1
    | cons d n =>
      obtain ⟨g1, g2, g3⟩ := (Memory.wf_cons d n).mp hn
      have hcd : c.1 = d.1 := by
        rcases Nat.lt_trichotomy c.1 d.1 with hl | hl | hl
        · have := h c.1
          simp only [Memory.read, if_true, if_neg (Nat.ne_of_lt hl)] at this
          rw [Memory.read_of_lt_all n c.1 (fun e he => Nat.lt_trans hl (g2 e he))] at this
          exact absurd this h1
        · exact hl
        · have := h d.1
          simp only [Memory.read, if_true, if_neg (Nat.ne_of_lt hl)] at this
          rw [Memory.read_of_lt_all m d.1 (fun e he => Nat.lt_trans hl (h2 e he))] at this
          exact absurd this.symm g1
      have hv : c.2 = d.2 := by
        have := h c.1
        simpa only [Memory.read, if_true, if_pos hcd] using this
      have hmn : m = n := by
        refine ih n h3 g3 (fun a => ?_)
        by_cases ha : a = c.1
        · subst ha
          rw [Memory.read_of_lt_all m _ h2, Memory.read_of_lt_all n _ (fun e he => hcd ▸ g2 e he)]
        · have := h a
          simpa only [Memory.read, if_neg ha, if_neg (hcd ▸ ha)] using this
      rw [hmn, Prod.ext hcd hv]

end Sys2Proof.Machine
end

