-- ==== Sys2Proof/Laws/State.lean ====
section
/-! SUPPORT. One lemma per field of the state and per update of it, and how register reads pass through updates. All hold
by definition, so no later proof unfolds a record update. -/

namespace Sys2Proof.Machine

variable (s : State)

/-! ### `State.setReg` -/

@[simp] theorem State.setReg_pc (r : RegNum) (v : Word) : (s.setReg r v).pc = s.pc := rfl
@[simp] theorem State.setReg_gpr (r : RegNum) (v : Word) : (s.setReg r v).gpr =
    if r = 0#5 then s.gpr else s.gpr.set r.toNat v r.isLt := rfl
@[simp] theorem State.setReg_fpr (r : RegNum) (v : Word) : (s.setReg r v).fpr = s.fpr := rfl
@[simp] theorem State.setReg_cfr (r : RegNum) (v : Word) : (s.setReg r v).cfr = s.cfr := rfl
@[simp] theorem State.setReg_fcsr (r : RegNum) (v : Word) : (s.setReg r v).fcsr = s.fcsr := rfl
@[simp] theorem State.setReg_csr (r : RegNum) (v : Word) : (s.setReg r v).csr = s.csr := rfl
@[simp] theorem State.setReg_llbit (r : RegNum) (v : Word) : (s.setReg r v).llbit = s.llbit := rfl
@[simp] theorem State.setReg_lladdr (r : RegNum) (v : Word) : (s.setReg r v).lladdr = s.lladdr := rfl
@[simp] theorem State.setReg_counter (r : RegNum) (v : Word) : (s.setReg r v).counter = s.counter := rfl
@[simp] theorem State.setReg_timerRunning (r : RegNum) (v : Word) : (s.setReg r v).timerRunning =
    s.timerRunning := rfl
@[simp] theorem State.setReg_idle (r : RegNum) (v : Word) : (s.setReg r v).idle = s.idle := rfl
@[simp] theorem State.setReg_tlb (r : RegNum) (v : Word) : (s.setReg r v).tlb = s.tlb := rfl
@[simp] theorem State.setReg_mem (r : RegNum) (v : Word) : (s.setReg r v).mem = s.mem := rfl
@[simp] theorem State.setReg_stale (r : RegNum) (v : Word) : (s.setReg r v).stale = s.stale := rfl
@[simp] theorem State.setReg_agenda (r : RegNum) (v : Word) : (s.setReg r v).agenda = s.agenda := rfl
@[simp] theorem State.setReg_draws (r : RegNum) (v : Word) : (s.setReg r v).draws = s.draws := rfl
@[simp] theorem State.setReg_freg (r : RegNum) (v : Word) (q : RegNum) : (s.setReg r v).freg q = s.freg q := rfl
@[simp] theorem State.setReg_flag (r : RegNum) (v : Word) (q : FlagNum) : (s.setReg r v).flag q = s.flag q := rfl

/-! ### `State.setPc` -/

@[simp] theorem State.setPc_pc (p : Word) : (s.setPc p).pc = p := rfl
@[simp] theorem State.setPc_gpr (p : Word) : (s.setPc p).gpr = s.gpr := rfl
@[simp] theorem State.setPc_fpr (p : Word) : (s.setPc p).fpr = s.fpr := rfl
@[simp] theorem State.setPc_cfr (p : Word) : (s.setPc p).cfr = s.cfr := rfl
@[simp] theorem State.setPc_fcsr (p : Word) : (s.setPc p).fcsr = s.fcsr := rfl
@[simp] theorem State.setPc_csr (p : Word) : (s.setPc p).csr = s.csr := rfl
@[simp] theorem State.setPc_llbit (p : Word) : (s.setPc p).llbit = s.llbit := rfl
@[simp] theorem State.setPc_lladdr (p : Word) : (s.setPc p).lladdr = s.lladdr := rfl
@[simp] theorem State.setPc_counter (p : Word) : (s.setPc p).counter = s.counter := rfl
@[simp] theorem State.setPc_timerRunning (p : Word) : (s.setPc p).timerRunning = s.timerRunning := rfl
@[simp] theorem State.setPc_idle (p : Word) : (s.setPc p).idle = s.idle := rfl
@[simp] theorem State.setPc_tlb (p : Word) : (s.setPc p).tlb = s.tlb := rfl
@[simp] theorem State.setPc_mem (p : Word) : (s.setPc p).mem = s.mem := rfl
@[simp] theorem State.setPc_stale (p : Word) : (s.setPc p).stale = s.stale := rfl
@[simp] theorem State.setPc_agenda (p : Word) : (s.setPc p).agenda = s.agenda := rfl
@[simp] theorem State.setPc_draws (p : Word) : (s.setPc p).draws = s.draws := rfl
@[simp] theorem State.setPc_reg (p : Word) (q : RegNum) : (s.setPc p).reg q = s.reg q := rfl
@[simp] theorem State.setPc_freg (p : Word) (q : RegNum) : (s.setPc p).freg q = s.freg q := rfl
@[simp] theorem State.setPc_flag (p : Word) (q : FlagNum) : (s.setPc p).flag q = s.flag q := rfl

/-! ### `State.advance` -/

@[simp] theorem State.advance_pc : (s.advance).pc = s.pc + 4#32 := rfl
@[simp] theorem State.advance_gpr : (s.advance).gpr = s.gpr := rfl
@[simp] theorem State.advance_fpr : (s.advance).fpr = s.fpr := rfl
@[simp] theorem State.advance_cfr : (s.advance).cfr = s.cfr := rfl
@[simp] theorem State.advance_fcsr : (s.advance).fcsr = s.fcsr := rfl
@[simp] theorem State.advance_csr : (s.advance).csr = s.csr := rfl
@[simp] theorem State.advance_llbit : (s.advance).llbit = s.llbit := rfl
@[simp] theorem State.advance_lladdr : (s.advance).lladdr = s.lladdr := rfl
@[simp] theorem State.advance_counter : (s.advance).counter = s.counter := rfl
@[simp] theorem State.advance_timerRunning : (s.advance).timerRunning = s.timerRunning := rfl
@[simp] theorem State.advance_idle : (s.advance).idle = s.idle := rfl
@[simp] theorem State.advance_tlb : (s.advance).tlb = s.tlb := rfl
@[simp] theorem State.advance_mem : (s.advance).mem = s.mem := rfl
@[simp] theorem State.advance_stale : (s.advance).stale = s.stale := rfl
@[simp] theorem State.advance_agenda : (s.advance).agenda = s.agenda := rfl
@[simp] theorem State.advance_draws : (s.advance).draws = s.draws := rfl
@[simp] theorem State.advance_reg (q : RegNum) : (s.advance).reg q = s.reg q := rfl
@[simp] theorem State.advance_freg (q : RegNum) : (s.advance).freg q = s.freg q := rfl
@[simp] theorem State.advance_flag (q : FlagNum) : (s.advance).flag q = s.flag q := rfl

/-! ### `State.setFreg` -/

@[simp] theorem State.setFreg_pc (r : RegNum) (v : FReg) : (s.setFreg r v).pc = s.pc := rfl
@[simp] theorem State.setFreg_gpr (r : RegNum) (v : FReg) : (s.setFreg r v).gpr = s.gpr := rfl
@[simp] theorem State.setFreg_fpr (r : RegNum) (v : FReg) : (s.setFreg r v).fpr = s.fpr.set r.toNat v r.isLt := rfl
@[simp] theorem State.setFreg_cfr (r : RegNum) (v : FReg) : (s.setFreg r v).cfr = s.cfr := rfl
@[simp] theorem State.setFreg_fcsr (r : RegNum) (v : FReg) : (s.setFreg r v).fcsr = s.fcsr := rfl
@[simp] theorem State.setFreg_csr (r : RegNum) (v : FReg) : (s.setFreg r v).csr = s.csr := rfl
@[simp] theorem State.setFreg_llbit (r : RegNum) (v : FReg) : (s.setFreg r v).llbit = s.llbit := rfl
@[simp] theorem State.setFreg_lladdr (r : RegNum) (v : FReg) : (s.setFreg r v).lladdr = s.lladdr := rfl
@[simp] theorem State.setFreg_counter (r : RegNum) (v : FReg) : (s.setFreg r v).counter = s.counter := rfl
@[simp] theorem State.setFreg_timerRunning (r : RegNum) (v : FReg) : (s.setFreg r v).timerRunning =
    s.timerRunning := rfl
@[simp] theorem State.setFreg_idle (r : RegNum) (v : FReg) : (s.setFreg r v).idle = s.idle := rfl
@[simp] theorem State.setFreg_tlb (r : RegNum) (v : FReg) : (s.setFreg r v).tlb = s.tlb := rfl
@[simp] theorem State.setFreg_mem (r : RegNum) (v : FReg) : (s.setFreg r v).mem = s.mem := rfl
@[simp] theorem State.setFreg_stale (r : RegNum) (v : FReg) : (s.setFreg r v).stale = s.stale := rfl
@[simp] theorem State.setFreg_agenda (r : RegNum) (v : FReg) : (s.setFreg r v).agenda = s.agenda := rfl
@[simp] theorem State.setFreg_draws (r : RegNum) (v : FReg) : (s.setFreg r v).draws = s.draws := rfl
@[simp] theorem State.setFreg_reg (r : RegNum) (v : FReg) (q : RegNum) : (s.setFreg r v).reg q = s.reg q := rfl
@[simp] theorem State.setFreg_flag (r : RegNum) (v : FReg) (q : FlagNum) : (s.setFreg r v).flag q = s.flag q := rfl

/-! ### `State.setFregLow` -/

@[simp] theorem State.setFregLow_pc (r : RegNum) (v : Word) : (s.setFregLow r v).pc = s.pc := rfl
@[simp] theorem State.setFregLow_gpr (r : RegNum) (v : Word) : (s.setFregLow r v).gpr = s.gpr := rfl
@[simp] theorem State.setFregLow_fpr (r : RegNum) (v : Word) : (s.setFregLow r v).fpr =
    s.fpr.set r.toNat { hi := Config.freeHigh s.draws, lo := v } r.isLt := rfl
@[simp] theorem State.setFregLow_cfr (r : RegNum) (v : Word) : (s.setFregLow r v).cfr = s.cfr := rfl
@[simp] theorem State.setFregLow_fcsr (r : RegNum) (v : Word) : (s.setFregLow r v).fcsr = s.fcsr := rfl
@[simp] theorem State.setFregLow_csr (r : RegNum) (v : Word) : (s.setFregLow r v).csr = s.csr := rfl
@[simp] theorem State.setFregLow_llbit (r : RegNum) (v : Word) : (s.setFregLow r v).llbit = s.llbit := rfl
@[simp] theorem State.setFregLow_lladdr (r : RegNum) (v : Word) : (s.setFregLow r v).lladdr = s.lladdr := rfl
@[simp] theorem State.setFregLow_counter (r : RegNum) (v : Word) : (s.setFregLow r v).counter = s.counter := rfl
@[simp] theorem State.setFregLow_timerRunning (r : RegNum) (v : Word) : (s.setFregLow r v).timerRunning =
    s.timerRunning := rfl
@[simp] theorem State.setFregLow_idle (r : RegNum) (v : Word) : (s.setFregLow r v).idle = s.idle := rfl
@[simp] theorem State.setFregLow_tlb (r : RegNum) (v : Word) : (s.setFregLow r v).tlb = s.tlb := rfl
@[simp] theorem State.setFregLow_mem (r : RegNum) (v : Word) : (s.setFregLow r v).mem = s.mem := rfl
@[simp] theorem State.setFregLow_stale (r : RegNum) (v : Word) : (s.setFregLow r v).stale = s.stale := rfl
@[simp] theorem State.setFregLow_agenda (r : RegNum) (v : Word) : (s.setFregLow r v).agenda = s.agenda := rfl
@[simp] theorem State.setFregLow_draws (r : RegNum) (v : Word) : (s.setFregLow r v).draws = s.draws + 1 := rfl
@[simp] theorem State.setFregLow_reg (r : RegNum) (v : Word) (q : RegNum) : (s.setFregLow r v).reg q = s.reg q := rfl
@[simp] theorem State.setFregLow_flag (r : RegNum) (v : Word) (q : FlagNum) : (s.setFregLow r v).flag q = s.flag q := rfl

/-! ### `State.setFlag` -/

@[simp] theorem State.setFlag_pc (n : FlagNum) (b : Bool) : (s.setFlag n b).pc = s.pc := rfl
@[simp] theorem State.setFlag_gpr (n : FlagNum) (b : Bool) : (s.setFlag n b).gpr = s.gpr := rfl
@[simp] theorem State.setFlag_fpr (n : FlagNum) (b : Bool) : (s.setFlag n b).fpr = s.fpr := rfl
@[simp] theorem State.setFlag_cfr (n : FlagNum) (b : Bool) : (s.setFlag n b).cfr = s.cfr.set n.toNat b n.isLt := rfl
@[simp] theorem State.setFlag_fcsr (n : FlagNum) (b : Bool) : (s.setFlag n b).fcsr = s.fcsr := rfl
@[simp] theorem State.setFlag_csr (n : FlagNum) (b : Bool) : (s.setFlag n b).csr = s.csr := rfl
@[simp] theorem State.setFlag_llbit (n : FlagNum) (b : Bool) : (s.setFlag n b).llbit = s.llbit := rfl
@[simp] theorem State.setFlag_lladdr (n : FlagNum) (b : Bool) : (s.setFlag n b).lladdr = s.lladdr := rfl
@[simp] theorem State.setFlag_counter (n : FlagNum) (b : Bool) : (s.setFlag n b).counter = s.counter := rfl
@[simp] theorem State.setFlag_timerRunning (n : FlagNum) (b : Bool) : (s.setFlag n b).timerRunning =
    s.timerRunning := rfl
@[simp] theorem State.setFlag_idle (n : FlagNum) (b : Bool) : (s.setFlag n b).idle = s.idle := rfl
@[simp] theorem State.setFlag_tlb (n : FlagNum) (b : Bool) : (s.setFlag n b).tlb = s.tlb := rfl
@[simp] theorem State.setFlag_mem (n : FlagNum) (b : Bool) : (s.setFlag n b).mem = s.mem := rfl
@[simp] theorem State.setFlag_stale (n : FlagNum) (b : Bool) : (s.setFlag n b).stale = s.stale := rfl
@[simp] theorem State.setFlag_agenda (n : FlagNum) (b : Bool) : (s.setFlag n b).agenda = s.agenda := rfl
@[simp] theorem State.setFlag_draws (n : FlagNum) (b : Bool) : (s.setFlag n b).draws = s.draws := rfl
@[simp] theorem State.setFlag_reg (n : FlagNum) (b : Bool) (q : RegNum) : (s.setFlag n b).reg q = s.reg q := rfl
@[simp] theorem State.setFlag_freg (n : FlagNum) (b : Bool) (q : RegNum) : (s.setFlag n b).freg q = s.freg q := rfl

/-! ### `State.setFcsr` -/

@[simp] theorem State.setFcsr_pc (v : Word) : (s.setFcsr v).pc = s.pc := rfl
@[simp] theorem State.setFcsr_gpr (v : Word) : (s.setFcsr v).gpr = s.gpr := rfl
@[simp] theorem State.setFcsr_fpr (v : Word) : (s.setFcsr v).fpr = s.fpr := rfl
@[simp] theorem State.setFcsr_cfr (v : Word) : (s.setFcsr v).cfr = s.cfr := rfl
@[simp] theorem State.setFcsr_fcsr (v : Word) : (s.setFcsr v).fcsr = v := rfl
@[simp] theorem State.setFcsr_csr (v : Word) : (s.setFcsr v).csr = s.csr := rfl
@[simp] theorem State.setFcsr_llbit (v : Word) : (s.setFcsr v).llbit = s.llbit := rfl
@[simp] theorem State.setFcsr_lladdr (v : Word) : (s.setFcsr v).lladdr = s.lladdr := rfl
@[simp] theorem State.setFcsr_counter (v : Word) : (s.setFcsr v).counter = s.counter := rfl
@[simp] theorem State.setFcsr_timerRunning (v : Word) : (s.setFcsr v).timerRunning = s.timerRunning := rfl
@[simp] theorem State.setFcsr_idle (v : Word) : (s.setFcsr v).idle = s.idle := rfl
@[simp] theorem State.setFcsr_tlb (v : Word) : (s.setFcsr v).tlb = s.tlb := rfl
@[simp] theorem State.setFcsr_mem (v : Word) : (s.setFcsr v).mem = s.mem := rfl
@[simp] theorem State.setFcsr_stale (v : Word) : (s.setFcsr v).stale = s.stale := rfl
@[simp] theorem State.setFcsr_agenda (v : Word) : (s.setFcsr v).agenda = s.agenda := rfl
@[simp] theorem State.setFcsr_draws (v : Word) : (s.setFcsr v).draws = s.draws := rfl
@[simp] theorem State.setFcsr_reg (v : Word) (q : RegNum) : (s.setFcsr v).reg q = s.reg q := rfl
@[simp] theorem State.setFcsr_freg (v : Word) (q : RegNum) : (s.setFcsr v).freg q = s.freg q := rfl
@[simp] theorem State.setFcsr_flag (v : Word) (q : FlagNum) : (s.setFcsr v).flag q = s.flag q := rfl

/-! ### `State.setCsr` -/

@[simp] theorem State.setCsr_pc (c : Csrs) : (s.setCsr c).pc = s.pc := rfl
@[simp] theorem State.setCsr_gpr (c : Csrs) : (s.setCsr c).gpr = s.gpr := rfl
@[simp] theorem State.setCsr_fpr (c : Csrs) : (s.setCsr c).fpr = s.fpr := rfl
@[simp] theorem State.setCsr_cfr (c : Csrs) : (s.setCsr c).cfr = s.cfr := rfl
@[simp] theorem State.setCsr_fcsr (c : Csrs) : (s.setCsr c).fcsr = s.fcsr := rfl
@[simp] theorem State.setCsr_csr (c : Csrs) : (s.setCsr c).csr = c := rfl
@[simp] theorem State.setCsr_llbit (c : Csrs) : (s.setCsr c).llbit = s.llbit := rfl
@[simp] theorem State.setCsr_lladdr (c : Csrs) : (s.setCsr c).lladdr = s.lladdr := rfl
@[simp] theorem State.setCsr_counter (c : Csrs) : (s.setCsr c).counter = s.counter := rfl
@[simp] theorem State.setCsr_timerRunning (c : Csrs) : (s.setCsr c).timerRunning = s.timerRunning := rfl
@[simp] theorem State.setCsr_idle (c : Csrs) : (s.setCsr c).idle = s.idle := rfl
@[simp] theorem State.setCsr_tlb (c : Csrs) : (s.setCsr c).tlb = s.tlb := rfl
@[simp] theorem State.setCsr_mem (c : Csrs) : (s.setCsr c).mem = s.mem := rfl
@[simp] theorem State.setCsr_stale (c : Csrs) : (s.setCsr c).stale = s.stale := rfl
@[simp] theorem State.setCsr_agenda (c : Csrs) : (s.setCsr c).agenda = s.agenda := rfl
@[simp] theorem State.setCsr_draws (c : Csrs) : (s.setCsr c).draws = s.draws := rfl
@[simp] theorem State.setCsr_reg (c : Csrs) (q : RegNum) : (s.setCsr c).reg q = s.reg q := rfl
@[simp] theorem State.setCsr_freg (c : Csrs) (q : RegNum) : (s.setCsr c).freg q = s.freg q := rfl
@[simp] theorem State.setCsr_flag (c : Csrs) (q : FlagNum) : (s.setCsr c).flag q = s.flag q := rfl

/-! ### `State.setLlbit` -/

@[simp] theorem State.setLlbit_pc (b : Bool) : (s.setLlbit b).pc = s.pc := rfl
@[simp] theorem State.setLlbit_gpr (b : Bool) : (s.setLlbit b).gpr = s.gpr := rfl
@[simp] theorem State.setLlbit_fpr (b : Bool) : (s.setLlbit b).fpr = s.fpr := rfl
@[simp] theorem State.setLlbit_cfr (b : Bool) : (s.setLlbit b).cfr = s.cfr := rfl
@[simp] theorem State.setLlbit_fcsr (b : Bool) : (s.setLlbit b).fcsr = s.fcsr := rfl
@[simp] theorem State.setLlbit_csr (b : Bool) : (s.setLlbit b).csr = s.csr := rfl
@[simp] theorem State.setLlbit_llbit (b : Bool) : (s.setLlbit b).llbit = b := rfl
@[simp] theorem State.setLlbit_lladdr (b : Bool) : (s.setLlbit b).lladdr = s.lladdr := rfl
@[simp] theorem State.setLlbit_counter (b : Bool) : (s.setLlbit b).counter = s.counter := rfl
@[simp] theorem State.setLlbit_timerRunning (b : Bool) : (s.setLlbit b).timerRunning = s.timerRunning := rfl
@[simp] theorem State.setLlbit_idle (b : Bool) : (s.setLlbit b).idle = s.idle := rfl
@[simp] theorem State.setLlbit_tlb (b : Bool) : (s.setLlbit b).tlb = s.tlb := rfl
@[simp] theorem State.setLlbit_mem (b : Bool) : (s.setLlbit b).mem = s.mem := rfl
@[simp] theorem State.setLlbit_stale (b : Bool) : (s.setLlbit b).stale = s.stale := rfl
@[simp] theorem State.setLlbit_agenda (b : Bool) : (s.setLlbit b).agenda = s.agenda := rfl
@[simp] theorem State.setLlbit_draws (b : Bool) : (s.setLlbit b).draws = s.draws := rfl
@[simp] theorem State.setLlbit_reg (b : Bool) (q : RegNum) : (s.setLlbit b).reg q = s.reg q := rfl
@[simp] theorem State.setLlbit_freg (b : Bool) (q : RegNum) : (s.setLlbit b).freg q = s.freg q := rfl
@[simp] theorem State.setLlbit_flag (b : Bool) (q : FlagNum) : (s.setLlbit b).flag q = s.flag q := rfl

/-! ### `State.setLladdr` -/

@[simp] theorem State.setLladdr_pc (p : PAddr) : (s.setLladdr p).pc = s.pc := rfl
@[simp] theorem State.setLladdr_gpr (p : PAddr) : (s.setLladdr p).gpr = s.gpr := rfl
@[simp] theorem State.setLladdr_fpr (p : PAddr) : (s.setLladdr p).fpr = s.fpr := rfl
@[simp] theorem State.setLladdr_cfr (p : PAddr) : (s.setLladdr p).cfr = s.cfr := rfl
@[simp] theorem State.setLladdr_fcsr (p : PAddr) : (s.setLladdr p).fcsr = s.fcsr := rfl
@[simp] theorem State.setLladdr_csr (p : PAddr) : (s.setLladdr p).csr = s.csr := rfl
@[simp] theorem State.setLladdr_llbit (p : PAddr) : (s.setLladdr p).llbit = s.llbit := rfl
@[simp] theorem State.setLladdr_lladdr (p : PAddr) : (s.setLladdr p).lladdr = p := rfl
@[simp] theorem State.setLladdr_counter (p : PAddr) : (s.setLladdr p).counter = s.counter := rfl
@[simp] theorem State.setLladdr_timerRunning (p : PAddr) : (s.setLladdr p).timerRunning = s.timerRunning := rfl
@[simp] theorem State.setLladdr_idle (p : PAddr) : (s.setLladdr p).idle = s.idle := rfl
@[simp] theorem State.setLladdr_tlb (p : PAddr) : (s.setLladdr p).tlb = s.tlb := rfl
@[simp] theorem State.setLladdr_mem (p : PAddr) : (s.setLladdr p).mem = s.mem := rfl
@[simp] theorem State.setLladdr_stale (p : PAddr) : (s.setLladdr p).stale = s.stale := rfl
@[simp] theorem State.setLladdr_agenda (p : PAddr) : (s.setLladdr p).agenda = s.agenda := rfl
@[simp] theorem State.setLladdr_draws (p : PAddr) : (s.setLladdr p).draws = s.draws := rfl
@[simp] theorem State.setLladdr_reg (p : PAddr) (q : RegNum) : (s.setLladdr p).reg q = s.reg q := rfl
@[simp] theorem State.setLladdr_freg (p : PAddr) (q : RegNum) : (s.setLladdr p).freg q = s.freg q := rfl
@[simp] theorem State.setLladdr_flag (p : PAddr) (q : FlagNum) : (s.setLladdr p).flag q = s.flag q := rfl

/-! ### `State.setTlb` -/

@[simp] theorem State.setTlb_pc (t : Vector TlbEntry Config.tlbEntries) : (s.setTlb t).pc = s.pc := rfl
@[simp] theorem State.setTlb_gpr (t : Vector TlbEntry Config.tlbEntries) : (s.setTlb t).gpr = s.gpr := rfl
@[simp] theorem State.setTlb_fpr (t : Vector TlbEntry Config.tlbEntries) : (s.setTlb t).fpr = s.fpr := rfl
@[simp] theorem State.setTlb_cfr (t : Vector TlbEntry Config.tlbEntries) : (s.setTlb t).cfr = s.cfr := rfl
@[simp] theorem State.setTlb_fcsr (t : Vector TlbEntry Config.tlbEntries) : (s.setTlb t).fcsr = s.fcsr := rfl
@[simp] theorem State.setTlb_csr (t : Vector TlbEntry Config.tlbEntries) : (s.setTlb t).csr = s.csr := rfl
@[simp] theorem State.setTlb_llbit (t : Vector TlbEntry Config.tlbEntries) : (s.setTlb t).llbit = s.llbit := rfl
@[simp] theorem State.setTlb_lladdr (t : Vector TlbEntry Config.tlbEntries) : (s.setTlb t).lladdr = s.lladdr := rfl
@[simp] theorem State.setTlb_counter (t : Vector TlbEntry Config.tlbEntries) : (s.setTlb t).counter = s.counter := rfl
@[simp] theorem State.setTlb_timerRunning (t : Vector TlbEntry Config.tlbEntries) : (s.setTlb t).timerRunning = s.timerRunning := rfl
@[simp] theorem State.setTlb_idle (t : Vector TlbEntry Config.tlbEntries) : (s.setTlb t).idle = s.idle := rfl
@[simp] theorem State.setTlb_tlb (t : Vector TlbEntry Config.tlbEntries) : (s.setTlb t).tlb = t := rfl
@[simp] theorem State.setTlb_mem (t : Vector TlbEntry Config.tlbEntries) : (s.setTlb t).mem = s.mem := rfl
@[simp] theorem State.setTlb_stale (t : Vector TlbEntry Config.tlbEntries) : (s.setTlb t).stale = s.stale := rfl
@[simp] theorem State.setTlb_agenda (t : Vector TlbEntry Config.tlbEntries) : (s.setTlb t).agenda = s.agenda := rfl
@[simp] theorem State.setTlb_draws (t : Vector TlbEntry Config.tlbEntries) : (s.setTlb t).draws = s.draws := rfl
@[simp] theorem State.setTlb_reg (t : Vector TlbEntry Config.tlbEntries) (q : RegNum) : (s.setTlb t).reg q = s.reg q := rfl
@[simp] theorem State.setTlb_freg (t : Vector TlbEntry Config.tlbEntries) (q : RegNum) : (s.setTlb t).freg q = s.freg q := rfl
@[simp] theorem State.setTlb_flag (t : Vector TlbEntry Config.tlbEntries) (q : FlagNum) : (s.setTlb t).flag q = s.flag q := rfl

/-! ### `State.setIdle` -/

@[simp] theorem State.setIdle_pc (b : Bool) : (s.setIdle b).pc = s.pc := rfl
@[simp] theorem State.setIdle_gpr (b : Bool) : (s.setIdle b).gpr = s.gpr := rfl
@[simp] theorem State.setIdle_fpr (b : Bool) : (s.setIdle b).fpr = s.fpr := rfl
@[simp] theorem State.setIdle_cfr (b : Bool) : (s.setIdle b).cfr = s.cfr := rfl
@[simp] theorem State.setIdle_fcsr (b : Bool) : (s.setIdle b).fcsr = s.fcsr := rfl
@[simp] theorem State.setIdle_csr (b : Bool) : (s.setIdle b).csr = s.csr := rfl
@[simp] theorem State.setIdle_llbit (b : Bool) : (s.setIdle b).llbit = s.llbit := rfl
@[simp] theorem State.setIdle_lladdr (b : Bool) : (s.setIdle b).lladdr = s.lladdr := rfl
@[simp] theorem State.setIdle_counter (b : Bool) : (s.setIdle b).counter = s.counter := rfl
@[simp] theorem State.setIdle_timerRunning (b : Bool) : (s.setIdle b).timerRunning = s.timerRunning := rfl
@[simp] theorem State.setIdle_idle (b : Bool) : (s.setIdle b).idle = b := rfl
@[simp] theorem State.setIdle_tlb (b : Bool) : (s.setIdle b).tlb = s.tlb := rfl
@[simp] theorem State.setIdle_mem (b : Bool) : (s.setIdle b).mem = s.mem := rfl
@[simp] theorem State.setIdle_stale (b : Bool) : (s.setIdle b).stale = s.stale := rfl
@[simp] theorem State.setIdle_agenda (b : Bool) : (s.setIdle b).agenda = s.agenda := rfl
@[simp] theorem State.setIdle_draws (b : Bool) : (s.setIdle b).draws = s.draws := rfl
@[simp] theorem State.setIdle_reg (b : Bool) (q : RegNum) : (s.setIdle b).reg q = s.reg q := rfl
@[simp] theorem State.setIdle_freg (b : Bool) (q : RegNum) : (s.setIdle b).freg q = s.freg q := rfl
@[simp] theorem State.setIdle_flag (b : Bool) (q : FlagNum) : (s.setIdle b).flag q = s.flag q := rfl

/-! ### `State.setStale` -/

@[simp] theorem State.setStale_pc (l : List StaleByte) : (s.setStale l).pc = s.pc := rfl
@[simp] theorem State.setStale_gpr (l : List StaleByte) : (s.setStale l).gpr = s.gpr := rfl
@[simp] theorem State.setStale_fpr (l : List StaleByte) : (s.setStale l).fpr = s.fpr := rfl
@[simp] theorem State.setStale_cfr (l : List StaleByte) : (s.setStale l).cfr = s.cfr := rfl
@[simp] theorem State.setStale_fcsr (l : List StaleByte) : (s.setStale l).fcsr = s.fcsr := rfl
@[simp] theorem State.setStale_csr (l : List StaleByte) : (s.setStale l).csr = s.csr := rfl
@[simp] theorem State.setStale_llbit (l : List StaleByte) : (s.setStale l).llbit = s.llbit := rfl
@[simp] theorem State.setStale_lladdr (l : List StaleByte) : (s.setStale l).lladdr = s.lladdr := rfl
@[simp] theorem State.setStale_counter (l : List StaleByte) : (s.setStale l).counter = s.counter := rfl
@[simp] theorem State.setStale_timerRunning (l : List StaleByte) : (s.setStale l).timerRunning = s.timerRunning := rfl
@[simp] theorem State.setStale_idle (l : List StaleByte) : (s.setStale l).idle = s.idle := rfl
@[simp] theorem State.setStale_tlb (l : List StaleByte) : (s.setStale l).tlb = s.tlb := rfl
@[simp] theorem State.setStale_mem (l : List StaleByte) : (s.setStale l).mem = s.mem := rfl
@[simp] theorem State.setStale_stale (l : List StaleByte) : (s.setStale l).stale = l := rfl
@[simp] theorem State.setStale_agenda (l : List StaleByte) : (s.setStale l).agenda = s.agenda := rfl
@[simp] theorem State.setStale_draws (l : List StaleByte) : (s.setStale l).draws = s.draws := rfl
@[simp] theorem State.setStale_reg (l : List StaleByte) (q : RegNum) : (s.setStale l).reg q = s.reg q := rfl
@[simp] theorem State.setStale_freg (l : List StaleByte) (q : RegNum) : (s.setStale l).freg q = s.freg q := rfl
@[simp] theorem State.setStale_flag (l : List StaleByte) (q : FlagNum) : (s.setStale l).flag q = s.flag q := rfl

/-! ### `State.drawn` -/

@[simp] theorem State.drawn_pc (n : Nat) : (s.drawn n).pc = s.pc := rfl
@[simp] theorem State.drawn_gpr (n : Nat) : (s.drawn n).gpr = s.gpr := rfl
@[simp] theorem State.drawn_fpr (n : Nat) : (s.drawn n).fpr = s.fpr := rfl
@[simp] theorem State.drawn_cfr (n : Nat) : (s.drawn n).cfr = s.cfr := rfl
@[simp] theorem State.drawn_fcsr (n : Nat) : (s.drawn n).fcsr = s.fcsr := rfl
@[simp] theorem State.drawn_csr (n : Nat) : (s.drawn n).csr = s.csr := rfl
@[simp] theorem State.drawn_llbit (n : Nat) : (s.drawn n).llbit = s.llbit := rfl
@[simp] theorem State.drawn_lladdr (n : Nat) : (s.drawn n).lladdr = s.lladdr := rfl
@[simp] theorem State.drawn_counter (n : Nat) : (s.drawn n).counter = s.counter := rfl
@[simp] theorem State.drawn_timerRunning (n : Nat) : (s.drawn n).timerRunning = s.timerRunning := rfl
@[simp] theorem State.drawn_idle (n : Nat) : (s.drawn n).idle = s.idle := rfl
@[simp] theorem State.drawn_tlb (n : Nat) : (s.drawn n).tlb = s.tlb := rfl
@[simp] theorem State.drawn_mem (n : Nat) : (s.drawn n).mem = s.mem := rfl
@[simp] theorem State.drawn_stale (n : Nat) : (s.drawn n).stale = s.stale := rfl
@[simp] theorem State.drawn_agenda (n : Nat) : (s.drawn n).agenda = s.agenda := rfl
@[simp] theorem State.drawn_draws (n : Nat) : (s.drawn n).draws = s.draws + n := rfl
@[simp] theorem State.drawn_reg (n : Nat) (q : RegNum) : (s.drawn n).reg q = s.reg q := rfl
@[simp] theorem State.drawn_freg (n : Nat) (q : RegNum) : (s.drawn n).freg q = s.freg q := rfl
@[simp] theorem State.drawn_flag (n : Nat) (q : FlagNum) : (s.drawn n).flag q = s.flag q := rfl

/-! ### `State.storePhysical` -/

@[simp] theorem State.storePhysical_pc (p : PAddr) (n v : Nat) : (s.storePhysical p n v).pc = s.pc := rfl
@[simp] theorem State.storePhysical_gpr (p : PAddr) (n v : Nat) : (s.storePhysical p n v).gpr = s.gpr := rfl
@[simp] theorem State.storePhysical_fpr (p : PAddr) (n v : Nat) : (s.storePhysical p n v).fpr = s.fpr := rfl
@[simp] theorem State.storePhysical_cfr (p : PAddr) (n v : Nat) : (s.storePhysical p n v).cfr = s.cfr := rfl
@[simp] theorem State.storePhysical_fcsr (p : PAddr) (n v : Nat) : (s.storePhysical p n v).fcsr = s.fcsr := rfl
@[simp] theorem State.storePhysical_csr (p : PAddr) (n v : Nat) : (s.storePhysical p n v).csr = s.csr := rfl
@[simp] theorem State.storePhysical_llbit (p : PAddr) (n v : Nat) : (s.storePhysical p n v).llbit = s.llbit := rfl
@[simp] theorem State.storePhysical_lladdr (p : PAddr) (n v : Nat) : (s.storePhysical p n v).lladdr = s.lladdr := rfl
@[simp] theorem State.storePhysical_counter (p : PAddr) (n v : Nat) : (s.storePhysical p n v).counter =
    s.counter := rfl
@[simp] theorem State.storePhysical_timerRunning (p : PAddr) (n v : Nat) : (s.storePhysical p n v).timerRunning =
    s.timerRunning := rfl
@[simp] theorem State.storePhysical_idle (p : PAddr) (n v : Nat) : (s.storePhysical p n v).idle = s.idle := rfl
@[simp] theorem State.storePhysical_tlb (p : PAddr) (n v : Nat) : (s.storePhysical p n v).tlb = s.tlb := rfl
@[simp] theorem State.storePhysical_mem (p : PAddr) (n v : Nat) : (s.storePhysical p n v).mem =
    s.mem.store p.toNat n v := rfl
@[simp] theorem State.storePhysical_stale (p : PAddr) (n v : Nat) : (s.storePhysical p n v).stale =
    overwritten s.mem p.toNat n true ++ ownedBy p.toNat n s.stale := rfl
@[simp] theorem State.storePhysical_agenda (p : PAddr) (n v : Nat) : (s.storePhysical p n v).agenda = s.agenda := rfl
@[simp] theorem State.storePhysical_draws (p : PAddr) (n v : Nat) : (s.storePhysical p n v).draws = s.draws := rfl
@[simp] theorem State.storePhysical_reg (p : PAddr) (n v : Nat) (q : RegNum) : (s.storePhysical p n v).reg q = s.reg q := rfl
@[simp] theorem State.storePhysical_freg (p : PAddr) (n v : Nat) (q : RegNum) : (s.storePhysical p n v).freg q = s.freg q := rfl
@[simp] theorem State.storePhysical_flag (p : PAddr) (n v : Nat) (q : FlagNum) : (s.storePhysical p n v).flag q = s.flag q := rfl

/-! ### `State.takeTrap` -/

@[simp] theorem State.takeTrap_pc (e : Trap) : (s.takeTrap e).pc = s.csr.entry e := rfl
@[simp] theorem State.takeTrap_gpr (e : Trap) : (s.takeTrap e).gpr = s.gpr := rfl
@[simp] theorem State.takeTrap_fpr (e : Trap) : (s.takeTrap e).fpr = s.fpr := rfl
@[simp] theorem State.takeTrap_cfr (e : Trap) : (s.takeTrap e).cfr = s.cfr := rfl
@[simp] theorem State.takeTrap_fcsr (e : Trap) : (s.takeTrap e).fcsr = s.fcsr := rfl
@[simp] theorem State.takeTrap_csr (e : Trap) : (s.takeTrap e).csr = s.csr.enter e s.pc := rfl
@[simp] theorem State.takeTrap_llbit (e : Trap) : (s.takeTrap e).llbit = s.llbit := rfl
@[simp] theorem State.takeTrap_lladdr (e : Trap) : (s.takeTrap e).lladdr = s.lladdr := rfl
@[simp] theorem State.takeTrap_counter (e : Trap) : (s.takeTrap e).counter = s.counter := rfl
@[simp] theorem State.takeTrap_timerRunning (e : Trap) : (s.takeTrap e).timerRunning = s.timerRunning := rfl
@[simp] theorem State.takeTrap_idle (e : Trap) : (s.takeTrap e).idle = s.idle := rfl
@[simp] theorem State.takeTrap_tlb (e : Trap) : (s.takeTrap e).tlb = s.tlb := rfl
@[simp] theorem State.takeTrap_mem (e : Trap) : (s.takeTrap e).mem = s.mem := rfl
@[simp] theorem State.takeTrap_stale (e : Trap) : (s.takeTrap e).stale = s.stale := rfl
@[simp] theorem State.takeTrap_agenda (e : Trap) : (s.takeTrap e).agenda = s.agenda := rfl
@[simp] theorem State.takeTrap_draws (e : Trap) : (s.takeTrap e).draws = s.draws := rfl
@[simp] theorem State.takeTrap_reg (e : Trap) (q : RegNum) : (s.takeTrap e).reg q = s.reg q := rfl
@[simp] theorem State.takeTrap_freg (e : Trap) (q : RegNum) : (s.takeTrap e).freg q = s.freg q := rfl
@[simp] theorem State.takeTrap_flag (e : Trap) (q : FlagNum) : (s.takeTrap e).flag q = s.flag q := rfl

/-! ### `State.returnFromTrap` -/

@[simp] theorem State.returnFromTrap_pc : (s.returnFromTrap).pc = s.csr.era := rfl
@[simp] theorem State.returnFromTrap_gpr : (s.returnFromTrap).gpr = s.gpr := rfl
@[simp] theorem State.returnFromTrap_fpr : (s.returnFromTrap).fpr = s.fpr := rfl
@[simp] theorem State.returnFromTrap_cfr : (s.returnFromTrap).cfr = s.cfr := rfl
@[simp] theorem State.returnFromTrap_fcsr : (s.returnFromTrap).fcsr = s.fcsr := rfl
@[simp] theorem State.returnFromTrap_csr : (s.returnFromTrap).csr =
    { s.csr with crmd := s.csr.crmdAtReturn, klo := false } := rfl
@[simp] theorem State.returnFromTrap_llbit : (s.returnFromTrap).llbit = (s.llbit && s.csr.klo) := rfl
@[simp] theorem State.returnFromTrap_lladdr : (s.returnFromTrap).lladdr = s.lladdr := rfl
@[simp] theorem State.returnFromTrap_counter : (s.returnFromTrap).counter = s.counter := rfl
@[simp] theorem State.returnFromTrap_timerRunning : (s.returnFromTrap).timerRunning = s.timerRunning := rfl
@[simp] theorem State.returnFromTrap_idle : (s.returnFromTrap).idle = s.idle := rfl
@[simp] theorem State.returnFromTrap_tlb : (s.returnFromTrap).tlb = s.tlb := rfl
@[simp] theorem State.returnFromTrap_mem : (s.returnFromTrap).mem = s.mem := rfl
@[simp] theorem State.returnFromTrap_stale : (s.returnFromTrap).stale = s.stale := rfl
@[simp] theorem State.returnFromTrap_agenda : (s.returnFromTrap).agenda = s.agenda := rfl
@[simp] theorem State.returnFromTrap_draws : (s.returnFromTrap).draws = s.draws := rfl
@[simp] theorem State.returnFromTrap_reg (q : RegNum) : (s.returnFromTrap).reg q = s.reg q := rfl
@[simp] theorem State.returnFromTrap_freg (q : RegNum) : (s.returnFromTrap).freg q = s.freg q := rfl
@[simp] theorem State.returnFromTrap_flag (q : FlagNum) : (s.returnFromTrap).flag q = s.flag q := rfl

/-! ### Register reads after writes (R12, R21) -/

/-- Reading a place of a vector after one place was set. -/
theorem vector_get_set {α : Type} {n : Nat} (v : Vector α n) (i : Nat) (h : i < n) (x : α) (j : Fin n) :
    (v.set i x h).get j = if j.val = i then x else v.get j := by
  show (v.set i x h)[j.val] = if j.val = i then x else v[j.val]
  rw [Vector.getElem_set]
  exact if_congr eq_comm rfl rfl

@[simp] theorem State.reg_zero : s.reg 0#5 = 0#32 := rfl

/-- Register numbers are equal when the places they name are. -/
theorem regNum_eq_iff {n : Nat} (q r : BitVec n) : q.toFin.val = r.toNat ↔ q = r :=
  ⟨fun h => BitVec.eq_of_toNat_eq h, fun h => by subst h; rfl⟩

theorem State.reg_setReg (r q : RegNum) (v : Word) :
    (s.setReg r v).reg q = if q = r then (if r = 0#5 then 0#32 else v) else s.reg q := by
  unfold State.reg State.setReg
  by_cases hr : r = 0#5
  · subst hr
    by_cases hq : q = 0#5 <;> simp [hq]
  · simp only [hr, if_false, vector_get_set, regNum_eq_iff]
    by_cases hq : q = r
    · simp [hq, hr]
    · simp [hq]

@[simp] theorem State.reg_setReg_same (r : RegNum) (v : Word) :
    (s.setReg r v).reg r = if r = 0#5 then 0#32 else v := by simp [State.reg_setReg]

theorem State.reg_setReg_other {r q : RegNum} (h : q ≠ r) (v : Word) : (s.setReg r v).reg q = s.reg q := by
  simp [State.reg_setReg, h]

theorem State.freg_setFreg (r q : RegNum) (v : FReg) :
    (s.setFreg r v).freg q = if q = r then v else s.freg q := by
  simp only [State.freg, State.setFreg, vector_get_set, regNum_eq_iff]

theorem State.freg_setFregLow (r q : RegNum) (v : Word) :
    (s.setFregLow r v).freg q = if q = r then { hi := Config.freeHigh s.draws, lo := v } else s.freg q :=
  State.freg_setFreg s r q _

theorem State.flag_setFlag (n q : FlagNum) (b : Bool) :
    (s.setFlag n b).flag q = if q = n then b else s.flag q := by
  simp only [State.flag, State.setFlag, vector_get_set, regNum_eq_iff]

end Sys2Proof.Machine
end

