-- ==== Sys2Proof/Laws/Ops.lean ====
section
/-! SUPPORT. One lemma per shared operation that says everything it can do, for the meanings to be read through. -/

namespace Sys2Proof.Machine

/-! ### Checks -/

theorem whenPrivileged_yes {s : State} {k : Result} (h : s.csr.plv = 0#2) : whenPrivileged s k = k := if_pos h

theorem whenPrivileged_no {s : State} {k : Result} (h : s.csr.plv ≠ 0#2) :
    whenPrivileged s k = .next (s.takeTrap .ipe) := if_neg h

/-- What a privileged instruction can answer with a next state. -/
theorem whenPrivileged_next {s t : State} {k : Result} (h : whenPrivileged s k = .next t) :
    (s.csr.plv = 0#2 ∧ k = .next t) ∨ (s.csr.plv ≠ 0#2 ∧ t = s.takeTrap .ipe) := by
  by_cases hp : s.csr.plv = 0#2
  · exact .inl ⟨hp, by rwa [whenPrivileged_yes hp] at h⟩
  · rw [whenPrivileged_no hp] at h
    exact .inr ⟨hp, (by injection h with h; exact h.symm)⟩

theorem whenFpEnabled_yes {s : State} {k : Result} (h : s.csr.fpe = true) : whenFpEnabled s k = k := if_pos h

theorem whenFpEnabled_no {s : State} {k : Result} (h : s.csr.fpe = false) :
    whenFpEnabled s k = .next (s.takeTrap .fpd) := if_neg (by simp [h])

/-- What a floating-point instruction can answer with a next state. -/
theorem whenFpEnabled_next {s t : State} {k : Result} (h : whenFpEnabled s k = .next t) :
    (s.csr.fpe = true ∧ k = .next t) ∨ (s.csr.fpe = false ∧ t = s.takeTrap .fpd) := by
  by_cases hp : s.csr.fpe = true
  · exact .inl ⟨hp, by rwa [whenFpEnabled_yes hp] at h⟩
  · rw [whenFpEnabled_no (by simpa using hp)] at h
    exact .inr ⟨by simpa using hp, (by injection h with h; exact h.symm)⟩

/-! ### Memory accesses -/

theorem physically_ram {kind : Access} {pa : PAddr} {k : Result} (h : regionKindAt pa.toNat = some .ram) :
    physically kind pa k = k := by simp [physically, h]

/-- A physical access that answers a next state is the access itself. -/
theorem physically_next {kind : Access} {pa : PAddr} {k : Result} {t : State} (h : physically kind pa k = .next t) :
    k = .next t := by
  unfold physically at h
  split at h
  · exact h
  · split at h
    · cases h
    · exact h
  · cases h
  · cases h

theorem accessing_misaligned {kind : Access} {n : Nat} {va : Word} {s : State} {k : PAddr → BitVec 2 → Result}
    (h : va.toNat % n ≠ 0) : accessing kind n va s k = .next (s.takeTrap (.ale va)) := if_pos h

theorem accessing_trapped {kind : Access} {n : Nat} {va : Word} {s : State} {k : PAddr → BitVec 2 → Result} {e : Trap}
    (h : va.toNat % n = 0) (ht : s.translate kind va = .trapped e) :
    accessing kind n va s k = .next (s.takeTrap e) := by
  simp [accessing, h, ht, raise]

theorem accessing_mapped {kind : Access} {n : Nat} {va : Word} {pa : PAddr} {mat : BitVec 2} {s : State}
    {k : PAddr → BitVec 2 → Result} (h : va.toNat % n = 0) (ht : s.translate kind va = .mapped pa mat)
    (hr : regionKindAt pa.toNat = some .ram) : accessing kind n va s k = k pa mat := by
  simp [accessing, h, ht, physically_ram hr]

/-- What a load or store can answer with a next state: an exception taken, or the access at its physical address. -/
theorem accessing_next {kind : Access} {n : Nat} {va : Word} {s t : State} {k : PAddr → BitVec 2 → Result}
    (h : accessing kind n va s k = .next t) :
    (∃ e, t = s.takeTrap e) ∨ ∃ pa mat, s.translate kind va = .mapped pa mat ∧ k pa mat = .next t := by
  unfold accessing at h
  split at h
  · exact .inl ⟨_, (by injection h with h; exact h.symm)⟩
  · split at h
    · exact .inl ⟨_, (by injection h with h; exact h.symm)⟩
    · cases h
    · next pa mat ht => exact .inr ⟨pa, mat, ht, physically_next h⟩

/-- What a load can answer with a next state. -/
theorem reading_next {n : Nat} {va : Word} {s t : State} {k : Nat → State} (h : reading n va s k = .next t) :
    (∃ e, t = s.takeTrap e) ∨ ∃ v, t = k v := by
  rcases accessing_next h with h | ⟨pa, mat, -, h⟩
  · exact .inl h
  · exact .inr ⟨_, (by injection h with h; exact h.symm)⟩

/-- What a store can answer with a next state. -/
theorem writing_next {n : Nat} {va : Word} {v : Nat} {s t : State} (h : writing n va v s = .next t) :
    (∃ e, t = s.takeTrap e) ∨ ∃ pa, t = (s.storePhysical pa n v).advance := by
  rcases accessing_next h with h | ⟨pa, mat, -, h⟩
  · exact .inl h
  · exact .inr ⟨pa, (by injection h with h; exact h.symm)⟩

/-! ### TLB entries named by TLBIDX -/

theorem atTlbIndex_of_lt {s : State} {k : Fin Config.tlbEntries → Result} (h : s.csr.index.toNat < Config.tlbEntries) :
    atTlbIndex s k = k ⟨s.csr.index.toNat, h⟩ := dif_pos h

/-- The index that TLBIDX holds, where an entry has it. -/
theorem atTlbIndex_eq {s : State} {k : Fin Config.tlbEntries → Result} {i : Fin Config.tlbEntries}
    (h : i.val = s.csr.index.toNat) : atTlbIndex s k = k i := by
  rw [atTlbIndex_of_lt (h ▸ i.isLt)]
  exact congrArg k (Fin.ext h.symm)

/-- What an instruction on the entry at TLBIDX.Index can answer with a next state. -/
theorem atTlbIndex_next {s t : State} {k : Fin Config.tlbEntries → Result} (h : atTlbIndex s k = .next t) :
    ∃ i : Fin Config.tlbEntries, i.val = s.csr.index.toNat ∧ k i = .next t := by
  unfold atTlbIndex at h
  split at h
  · exact ⟨_, rfl, h⟩
  · cases h

/-! ### What an implementation may add, and this one does not -/

@[simp] theorem actsAsHint0_dbar (hint : BitVec 15) : actsAsHint0 Config.dbarHints hint = true := by
  simp [actsAsHint0, Config.dbarHints]

@[simp] theorem actsAsHint0_ibar (hint : BitVec 15) : actsAsHint0 Config.ibarHints hint = true := by
  simp [actsAsHint0, Config.ibarHints]

@[simp] theorem barrier_eq (full : Bool) (s : State) : barrier full s = s := rfl
@[simp] theorem cacop3_eq (c : BitVec 3) (va : Word) (s : State) : cacop3 c va s = s := rfl
@[simp] theorem idleLevel_eq (level : BitVec 15) (s : State) : idleLevel level s = s := rfl

/-! ### The end of an arithmetic floating-point instruction -/

theorem fpComplete_quiet {sig : Signals} {s : State} {write : State → State} (h : sig &&& s.enables = 0#5) :
    fpComplete sig s write = .next (write (s.setFcsr (fcsrAccrued s.fcsr sig))).advance := if_pos h

theorem fpComplete_trap {sig : Signals} {s : State} {write : State → State} (h : sig &&& s.enables ≠ 0#5) :
    fpComplete sig s write = .next ((s.setFcsr (fcsrWithCause s.fcsr sig)).takeTrap .fpe) := if_neg h

/-- Everything the end of an arithmetic floating-point instruction can answer. -/
theorem fpComplete_next {sig : Signals} {s t : State} {write : State → State}
    (h : fpComplete sig s write = .next t) :
    t = (write (s.setFcsr (fcsrAccrued s.fcsr sig))).advance ∨
      t = (s.setFcsr (fcsrWithCause s.fcsr sig)).takeTrap .fpe := by
  by_cases hs : sig &&& s.enables = 0#5
  · rw [fpComplete_quiet hs] at h; exact .inl (by injection h with h; exact h.symm)
  · rw [fpComplete_trap hs] at h; exact .inr (by injection h with h; exact h.symm)

/-! ### Fetch and step -/

theorem fetch_word {s : State} {pa : PAddr} {mat : BitVec 2} (ha : field s.pc 0 2 = 0#2)
    (ht : s.translate .fetch s.pc = .mapped pa mat) (hr : regionKindAt pa.toNat = some .ram) :
    s.fetch = .word (s.fetchWordAt pa) := by simp [State.fetch, ha, ht, hr]

theorem runWord_ok {s : State} {w : Word} {i : Instr} (h : decodeWord w = .ok i) : runWord w s = exec i s := by
  simp [runWord, h]

theorem runWord_rejected {s : State} {w : Word} {why : RejectReason} (h : decodeWord w = .rejected why) :
    runWord w s = .next (s.takeTrap .ine) := by simp [runWord, h, raise]

/-- What running a fetched word can answer with a next state. -/
theorem runWord_next {s t : State} {w : Word} (h : runWord w s = .next t) :
    (∃ i, decodeWord w = .ok i ∧ exec i s = .next t) ∨ t = s.takeTrap .ine := by
  unfold runWord at h
  split at h
  · next i hi => exact .inl ⟨i, hi, h⟩
  · exact .inr (by injection h with h; exact h.symm)

/-- What fetching and running can answer with a next state. -/
theorem fetchAndRun_next {s t : State} (h : fetchAndRun s = .next t) :
    (∃ i, exec i s.afterFetch = .next t) ∨ ∃ e, t = s.afterFetch.takeTrap e := by
  unfold fetchAndRun at h
  split at h
  · rcases runWord_next h with ⟨i, -, h⟩ | h
    · exact .inl ⟨i, h⟩
    · exact .inr ⟨_, h⟩
  · exact .inr ⟨_, (by injection h with h; exact h.symm)⟩
  · cases h

/-- What a core step can answer with a next state: the wait goes on, an interrupt is taken, or an instruction runs. -/
theorem coreStep_next {s t : State} (h : coreStep s = .next t) :
    t = s ∨ t = (s.setIdle false).takeTrap .int ∨
      (∃ i, exec i (s.setIdle false).afterFetch = .next t) ∨ ∃ e, t = (s.setIdle false).afterFetch.takeTrap e := by
  unfold coreStep at h
  split at h
  · exact .inl (by injection h with h; exact h.symm)
  · unfold activeStep at h
    split at h
    · exact .inr (.inl (by injection h with h; exact h.symm))
    · exact .inr (.inr (fetchAndRun_next h))

/-- A step of the default schedule that answers a next state is a core step followed by a counter tick. -/
theorem coreStepAndTick_next {s t : State} (h : coreStepAndTick s = .next t) :
    ∃ u, coreStep s = .next u ∧ t = counterTick u := by
  unfold coreStepAndTick at h
  split at h
  · next u hu => exact ⟨u, hu, (by injection h with h; exact h.symm)⟩
  · cases h
  · cases h

/-- What a step can answer with a next state. -/
theorem step_next {s t : State} (h : step s = .next t) :
    (s.agenda = [] ∧ ∃ u, coreStep s = .next u ∧ t = counterTick u) ∨
      ∃ m rest, s.agenda = m :: rest ∧ agentStep m { s with agenda := rest } = .next t := by
  unfold step at h
  split at h
  · next ha => exact .inl ⟨ha, coreStepAndTick_next h⟩
  · next m rest ha => exact .inr ⟨m, rest, ha, h⟩

/-! ### What a draw during a fetch leaves alone -/

theorem afterFetch_eq (s : State) : s.afterFetch = s ∨ s.afterFetch = s.drawn 1 := by
  unfold State.afterFetch
  split
  · exact .inl rfl
  · exact .inr rfl

theorem afterFetch_of_no_stale {s : State} (h : s.stale = []) : s.afterFetch = s := by
  simp [State.afterFetch, h]

/-- A byte fetched where nothing was overwritten is the byte in memory (R102). -/
theorem fetchByte_fresh {m : Memory} {stale : List StaleByte} {d a : Nat} (h : ∀ e ∈ stale, e.addr ≠ a) :
    fetchByte m stale d a = m.read a := by
  have : stale.filter (fun e => e.addr == a) = [] := by
    rw [List.filter_eq_nil_iff]
    intro e he
    simpa using h e he
  simp [fetchByte, this]

end Sys2Proof.Machine
end

