-- ==== Sys2Proof/Laws/Effects.lean ====
section
/-! SUPPORT. What each shared way of ending an instruction does to the whole state, in the terms of `Safety.lean`: the
result written, and everything else left alone. -/

namespace Sys2Proof.Machine

/-- The end of an instruction that writes one general register. -/
theorem produce_effect (rd : RegNum) (v : Word) (s : State) :
    ∃ t, produce rd v s = .next t ∧ GprEffect s t rd v (s.pc + 4#32) :=
  ⟨_, rfl, by simp, fun r hr => by simp [State.reg_setReg, hr], rfl, fun _ => rfl, fun _ => rfl, rfl,
    fun _ => rfl, rfl, rfl, rfl, rfl, rfl, rfl, rfl, rfl, rfl⟩

end Sys2Proof.Machine
end

