-- ==== Sys2Proof/Laws/Invariant.lean ====
section
/-! SUPPORT. Every update of the state keeps the parts of `State.inv`: one lemma per operation. -/

namespace Sys2Proof.Machine

/-! ### The reserved bits of the CSRs as a proposition -/

/-- What `Csrs.reservedZero` says, register by register. -/
theorem Csrs.reservedZero_iff (c : Csrs) : c.reservedZero = true ↔
    c.crmd &&& ~~~crmdWritable = 0#32 ∧ c.prmd &&& ~~~prmdWritable = 0#32 ∧ c.euen &&& ~~~euenWritable = 0#32 ∧
    c.ecfg &&& ~~~ecfgWritable = 0#32 ∧ c.estat &&& ~~~estatDefined = 0#32 ∧
    c.eentry &&& ~~~entryWritable = 0#32 ∧ c.tlbidx &&& ~~~tlbidxWritable = 0#32 ∧
    c.tlbehi &&& ~~~tlbehiWritable = 0#32 ∧ c.tlbelo0 &&& ~~~tlbeloWritable = 0#32 ∧
    c.tlbelo1 &&& ~~~tlbeloWritable = 0#32 ∧ c.pgdl &&& ~~~pgdWritable = 0#32 ∧
    c.pgdh &&& ~~~pgdWritable = 0#32 ∧ c.tlbrentry &&& ~~~entryWritable = 0#32 ∧
    c.dmw0 &&& ~~~dmwWritable = 0#32 ∧ c.dmw1 &&& ~~~dmwWritable = 0#32 := by
  simp only [Csrs.reservedZero, Bool.and_eq_true, beq_iff_eq, and_assoc]

/-! ### Reserved bits after each change of the CSRs -/

theorem crmdAtEntry_reserved (e : Trap) {w : Word} (h : w &&& ~~~crmdWritable = 0#32) :
    crmdAtEntry e w &&& ~~~crmdWritable = 0#32 := by
  unfold crmdAtEntry
  split
  · exact setField_reserved _ _ h (by decide)
  · exact setField_reserved _ _ h (by decide)

theorem Csrs.crmdAtReturn_reserved {c : Csrs} (h : c.crmd &&& ~~~crmdWritable = 0#32) :
    c.crmdAtReturn &&& ~~~crmdWritable = 0#32 := by
  unfold Csrs.crmdAtReturn
  split
  · exact setField_reserved _ _ (setField_reserved _ _ h (by decide)) (by decide)
  · exact setField_reserved _ _ h (by decide)

/-- Trap entry keeps the reserved bits 0 (R490, R491). -/
theorem Csrs.reservedZero_enter {c : Csrs} (e : Trap) (pc : Word) (h : c.reservedZero = true) :
    (c.enter e pc).reservedZero = true := by
  rw [Csrs.reservedZero_iff] at *
  obtain ⟨h1, h2, h3, h4, h5, h6, h7, h8, h9, h10, h11, h12, h13, h14, h15⟩ := h
  refine ⟨crmdAtEntry_reserved e h1, setField_reserved _ _ h2 (by decide), h3, h4,
    setField_reserved _ _ (setField_reserved _ _ h5 (by decide)) (by decide), h6, h7, ?_, h9, h10, h11, h12, h13, h14,
    h15⟩
  show (match e.pageFault with
    | some va => setField c.tlbehi 13 (field va 13 19)
    | none => c.tlbehi) &&& ~~~tlbehiWritable = 0#32
  split
  · exact setField_reserved _ _ h8 (by decide)
  · exact h8

/-- An interrupt-status bit that is defined may change. -/
theorem Csrs.reservedZero_setPending {c : Csrs} (i : Nat) (b : Bool) (hi : ones i 1 &&& ~~~estatDefined = 0#32)
    (h : c.reservedZero = true) : (c.setPending i b).reservedZero = true := by
  rw [Csrs.reservedZero_iff] at *
  obtain ⟨h1, h2, h3, h4, h5, h6⟩ := h
  exact ⟨h1, h2, h3, h4, setBit_reserved _ _ h5 hi, h6⟩

theorem tlbeloOfPage_reserved (p : TlbPage) (g : Bool) : tlbeloOfPage p g &&& ~~~tlbeloWritable = 0#32 := by
  unfold tlbeloOfPage
  exact or_and_eq_zero (or_and_eq_zero (or_and_eq_zero (or_and_eq_zero (or_and_eq_zero
    (place_reserved _ _ (by decide)) (place_reserved _ _ (by decide))) (place_reserved _ _ (by decide)))
    (place_reserved _ _ (by decide))) (place_reserved _ _ (by decide))) (place_reserved _ _ (by decide))

/-- TLBRD keeps the reserved bits 0 (R438). -/
theorem Csrs.reservedZero_readTlbEntry {c : Csrs} (e : TlbEntry) (h : c.reservedZero = true) :
    (c.readTlbEntry e).reservedZero = true := by
  rw [Csrs.reservedZero_iff] at h
  obtain ⟨h1, h2, h3, h4, h5, h6, h7, h8, h9, h10, h11, h12, h13, h14, h15⟩ := h
  unfold Csrs.readTlbEntry
  split
  · rw [Csrs.reservedZero_iff]
    exact ⟨h1, h2, h3, h4, h5, h6, setBit_reserved _ _ (setField_reserved _ _ h7 (by decide)) (by decide),
      place_reserved _ _ (by decide), tlbeloOfPage_reserved _ _, tlbeloOfPage_reserved _ _, h11, h12, h13, h14, h15⟩
  · rw [Csrs.reservedZero_iff]
    exact ⟨h1, h2, h3, h4, h5, h6, setBit_reserved _ _ (setField_reserved _ _ h7 (by decide)) (by decide),
      by simp, by simp, by simp, h11, h12, h13, h14, h15⟩

/-! ### The invariant after each operation -/

variable {s : State}

/-- The invariant reads five components only. -/
theorem State.inv_congr {t : State} (h : s.inv) (hm : t.mem = s.mem) (hg : t.gpr = s.gpr) (hf : t.fcsr = s.fcsr)
    (hc : t.csr = s.csr) (ht : t.timerRunning = s.timerRunning) : t.inv := by
  unfold State.inv
  rw [hm, hg, hf, hc, ht]
  exact h

theorem State.inv_setReg (r : RegNum) (v : Word) (h : s.inv) : (s.setReg r v).inv := by
  refine ⟨h.1, ?_, h.2.2⟩
  show (if r = 0#5 then s.gpr else s.gpr.set r.toNat v r.isLt).get 0 = 0#32
  split
  · exact h.2.1
  · next hr =>
    rw [vector_get_set, if_neg (fun e => hr (BitVec.eq_of_toNat_eq e.symm))]
    exact h.2.1

theorem State.inv_setPc (p : Word) (h : s.inv) : (s.setPc p).inv := State.inv_congr h rfl rfl rfl rfl rfl
theorem State.inv_advance (h : s.inv) : s.advance.inv := State.inv_congr h rfl rfl rfl rfl rfl
theorem State.inv_setFreg (r : RegNum) (v : FReg) (h : s.inv) : (s.setFreg r v).inv :=
  State.inv_congr h rfl rfl rfl rfl rfl
theorem State.inv_setFregLow (r : RegNum) (v : Word) (h : s.inv) : (s.setFregLow r v).inv :=
  State.inv_congr h rfl rfl rfl rfl rfl
theorem State.inv_setFlag (n : FlagNum) (b : Bool) (h : s.inv) : (s.setFlag n b).inv :=
  State.inv_congr h rfl rfl rfl rfl rfl
theorem State.inv_setLlbit (b : Bool) (h : s.inv) : (s.setLlbit b).inv := State.inv_congr h rfl rfl rfl rfl rfl
theorem State.inv_setLladdr (p : PAddr) (h : s.inv) : (s.setLladdr p).inv := State.inv_congr h rfl rfl rfl rfl rfl
theorem State.inv_setTlb (t : Vector TlbEntry Config.tlbEntries) (h : s.inv) : (s.setTlb t).inv :=
  State.inv_congr h rfl rfl rfl rfl rfl
theorem State.inv_setIdle (b : Bool) (h : s.inv) : (s.setIdle b).inv := State.inv_congr h rfl rfl rfl rfl rfl
theorem State.inv_setStale (l : List StaleByte) (h : s.inv) : (s.setStale l).inv :=
  State.inv_congr h rfl rfl rfl rfl rfl
theorem State.inv_drawn (n : Nat) (h : s.inv) : (s.drawn n).inv := State.inv_congr h rfl rfl rfl rfl rfl

theorem State.inv_setFpResult (f : FpFormat) (r : RegNum) (b : Nat) (h : s.inv) : (s.setFpResult f r b).inv := by
  cases f
  · exact State.inv_setFregLow _ _ h
  · exact State.inv_setFreg _ _ h

theorem State.inv_afterFetch (h : s.inv) : s.afterFetch.inv := by
  rcases afterFetch_eq s with e | e <;> rw [e]
  · exact h
  · exact State.inv_drawn _ h

theorem State.inv_setFcsr (v : Word) (hv : v &&& ~~~fcsrDefined = 0#32) (h : s.inv) : (s.setFcsr v).inv :=
  ⟨h.1, h.2.1, hv, h.2.2.2⟩

theorem State.inv_setCsr (c : Csrs) (hc : c.reservedZero = true) (ht : c.tcfg = s.csr.tcfg) (h : s.inv) :
    (s.setCsr c).inv := by
  refine ⟨h.1, h.2.1, h.2.2.1, hc, fun hr => ?_⟩
  show bit c.tcfg 0 = true
  rw [ht]
  exact h.2.2.2.2 hr

theorem State.inv_storePhysical (p : PAddr) (n v : Nat) (h : s.inv) : (s.storePhysical p n v).inv :=
  ⟨Memory.wf_store _ _ _ _ h.1, h.2⟩

theorem State.inv_takeTrap (e : Trap) (h : s.inv) : (s.takeTrap e).inv :=
  ⟨h.1, h.2.1, h.2.2.1, Csrs.reservedZero_enter e s.pc h.2.2.2.1, h.2.2.2.2⟩

theorem State.inv_returnFromTrap (h : s.inv) : s.returnFromTrap.inv := by
  refine ⟨h.1, h.2.1, h.2.2.1, ?_, h.2.2.2.2⟩
  have hc := h.2.2.2.1
  show Csrs.reservedZero { s.csr with crmd := s.csr.crmdAtReturn, klo := false } = true
  rw [Csrs.reservedZero_iff] at *
  exact ⟨Csrs.crmdAtReturn_reserved hc.1, hc.2⟩

theorem fcsrWithCause_reserved {w : Word} (sig : Signals) (h : w &&& ~~~fcsrDefined = 0#32) :
    fcsrWithCause w sig &&& ~~~fcsrDefined = 0#32 := setField_reserved _ _ h (by decide)

theorem fcsrAccrued_reserved {w : Word} (sig : Signals) (h : w &&& ~~~fcsrDefined = 0#32) :
    fcsrAccrued w sig &&& ~~~fcsrDefined = 0#32 :=
  setField_reserved _ _ (fcsrWithCause_reserved sig h) (by decide)

theorem State.inv_writeFcsr (n : BitVec 5) (v : Word) (h : s.inv) : (s.writeFcsr n v).inv := by
  unfold State.writeFcsr
  split
  · next mask hm =>
    refine State.inv_setFcsr _ (or_and_eq_zero (and_and_eq_zero _ h.2.2.1) ?_) h
    have hmask : mask &&& ~~~fcsrDefined = 0#32 := by
      unfold fcsrView at hm
      split at hm <;> first | (injection hm with hm; subst hm; decide) | cases hm
    rw [BitVec.and_comm v mask]
    exact and_and_eq_zero _ hmask
  · exact State.inv_drawn _ (State.inv_setFcsr _ (masked_reserved _ _) h)

theorem State.inv_writeTcfg (v : Word) (h : s.inv) : (s.writeTcfg v).inv := by
  have hc := h.2.2.2.1
  unfold State.writeTcfg
  split
  · next hv =>
    refine ⟨h.1, h.2.1, h.2.2.1, ?_, fun _ => hv⟩
    rw [Csrs.reservedZero_iff] at *
    exact hc
  · refine ⟨h.1, h.2.1, h.2.2.1, ?_, fun hr => absurd hr (by simp)⟩
    rw [Csrs.reservedZero_iff] at *
    exact hc

/-- A software write of a CSR keeps the invariant (R46). -/
theorem State.inv_writeCsrNamed (v : Word) (c : CsrName) (h : s.inv) : (s.writeCsrNamed v c).inv := by
  obtain ⟨hm, hg, hf, hc, ht⟩ := h
  have hr := hc
  rw [Csrs.reservedZero_iff] at hr
  obtain ⟨h1, h2, h3, h4, h5, h6, h7, h8, h9, h10, h11, h12, h13, h14, h15⟩ := hr
  cases c
  case tcfg => exact State.inv_writeTcfg v ⟨hm, hg, hf, hc, ht⟩
  case ticlr =>
    simp only [State.writeCsrNamed]
    split
    · exact ⟨hm, hg, hf, Csrs.reservedZero_setPending _ _ (by decide) hc, ht⟩
    · exact ⟨hm, hg, hf, hc, ht⟩
  case estat =>
    refine ⟨hm, hg, hf, (Csrs.reservedZero_iff _).mpr ?_, ht⟩
    refine ⟨h1, h2, h3, h4, or_and_eq_zero (and_and_eq_zero _ h5) ?_, h6, h7, h8, h9, h10, h11, h12, h13, h14, h15⟩
    rw [BitVec.and_comm v]
    exact and_and_eq_zero _ (by decide)
  case pgd => exact ⟨hm, hg, hf, hc, ht⟩
  case cpuid => exact ⟨hm, hg, hf, hc, ht⟩
  case tval => exact ⟨hm, hg, hf, hc, ht⟩
  all_goals
    refine ⟨hm, hg, hf, (Csrs.reservedZero_iff _).mpr ?_, ht⟩
    simp only [State.writeCsrNamed, State.writeLlbctl, masked_reserved, h1, h2, h3, h4, h5, h6, h7, h8, h9, h10, h11, h12,
      h13, h14, h15, and_self]

theorem State.inv_writeCsr (n : BitVec 14) (v : Word) (h : s.inv) : (s.writeCsr n v).inv := by
  unfold State.writeCsr
  split
  · exact State.inv_writeCsrNamed _ _ h
  · exact h

/-! ### The invariant and the other agents -/

theorem State.inv_timerTick (h : s.inv) : s.timerTick.inv := by
  have hc := h.2.2.2.1
  unfold State.timerTick
  split
  · exact h
  · split
    · refine ⟨h.1, h.2.1, h.2.2.1, ?_, h.2.2.2.2⟩
      rw [Csrs.reservedZero_iff] at *
      exact hc
    · split
      · refine ⟨h.1, h.2.1, h.2.2.1, ?_, h.2.2.2.2⟩
        have := Csrs.reservedZero_setPending 11 true (by decide) hc
        rw [Csrs.reservedZero_iff] at *
        exact this
      · exact ⟨h.1, h.2.1, h.2.2.1, Csrs.reservedZero_setPending 11 true (by decide) hc,
          fun hr => absurd hr (by simp)⟩

theorem State.inv_counterTick (h : s.inv) : (counterTick s).inv :=
  State.inv_congr (State.inv_timerTick h) rfl rfl rfl rfl rfl

theorem State.inv_externalStore (pa : PAddr) (bytes : List Byte) (h : s.inv) : (externalStore s pa bytes).inv :=
  ⟨Memory.wf_writeBytes _ _ _ h.1, h.2⟩

theorem State.inv_interruptLine (n : BitVec 3) (level : Bool) (h : s.inv) : (interruptLine s n level).inv := by
  refine State.inv_setCsr _ (Csrs.reservedZero_setPending _ _ ?_ h.2.2.2.1) rfl h
  revert n
  decide

theorem State.inv_ipiLine (level : Bool) (h : s.inv) : (ipiLine s level).inv :=
  State.inv_setCsr _ (Csrs.reservedZero_setPending _ _ (by decide) h.2.2.2.1) rfl h

theorem State.inv_resetEvent (h : s.inv) : (resetEvent s).inv := by
  refine ⟨h.1, (by decide : State.reset.gpr.get 0 = 0#32), (by decide : State.reset.fcsr &&& ~~~fcsrDefined = 0#32), ?_,
    fun hr => absurd hr (by decide : ¬ State.reset.timerRunning = true)⟩
  have hc : Csrs.reset.reservedZero = true := by decide
  rw [Csrs.reservedZero_iff] at *
  obtain ⟨h1, h2, h3, h4, -, h6⟩ := hc
  refine ⟨h1, h2, h3, h4, ?_, h6⟩
  show s.csr.estat &&& inputLines &&& ~~~estatDefined = 0#32
  rw [BitVec.and_comm s.csr.estat]
  exact and_and_eq_zero _ (by decide)

end Sys2Proof.Machine
end

