-- ==== Sys2Proof/Laws/PerInstr.lean ====
section
/-! SUPPORT. A statement about every instruction as syntax, one lemma per constructor: its word is accepted by a row of the
opcode table that builds the instruction back, every operand at every value (R140, R147). -/

namespace Sys2Proof.Laws

set_option Elab.async false

/-- A row of the opcode table accepts the instruction's word, where its fields are admitted, and builds it back. -/
def EncodedRow.Statement (i : Instr) : Prop :=
  ∃ r ∈ opcodeRows, (i.fieldsOk = true → r.accepts (encode i) = true) ∧ r.build (encode i) = i

/-- Masking a word with an operand placed outside the mask. -/
theorem or_masked {a b m p : Word} (ha : a &&& m = p) (hb : b &&& m = 0#32) : (a ||| b) &&& m = p := by
  rw [BitVec.and_comm, BitVec.and_or_distrib_left, BitVec.and_comm m b, hb, BitVec.or_zero, BitVec.and_comm, ha]

/-- Fixed bits with one operand outside the mask. -/
theorem masked1 {c m : Word} {n : Nat} (v : BitVec n) {l : Nat} (hc : c &&& m = c) (h : ones l n &&& m = 0#32) :
    (c ||| place v l) &&& m = c := or_masked hc (place_reserved v l h)

/-- Fixed bits with two operands outside the mask. -/
theorem masked2 {c m : Word} {n₁ n₂ : Nat} (v₁ : BitVec n₁) (v₂ : BitVec n₂) {l₁ l₂ : Nat} (hc : c &&& m = c)
    (h₁ : ones l₁ n₁ &&& m = 0#32) (h₂ : ones l₂ n₂ &&& m = 0#32) : (c ||| place v₁ l₁ ||| place v₂ l₂) &&& m = c :=
  or_masked (masked1 v₁ hc h₁) (place_reserved v₂ l₂ h₂)

/-- Fixed bits with three operands outside the mask. -/
theorem masked3 {c m : Word} {n₁ n₂ n₃ : Nat} (v₁ : BitVec n₁) (v₂ : BitVec n₂) (v₃ : BitVec n₃) {l₁ l₂ l₃ : Nat}
    (hc : c &&& m = c) (h₁ : ones l₁ n₁ &&& m = 0#32) (h₂ : ones l₂ n₂ &&& m = 0#32) (h₃ : ones l₃ n₃ &&& m = 0#32) :
    (c ||| place v₁ l₁ ||| place v₂ l₂ ||| place v₃ l₃) &&& m = c :=
  or_masked (masked2 v₁ v₂ hc h₁ h₂) (place_reserved v₃ l₃ h₃)

/-- Fixed bits with four operands outside the mask. -/
theorem masked4 {c m : Word} {n₁ n₂ n₃ n₄ : Nat} (v₁ : BitVec n₁) (v₂ : BitVec n₂) (v₃ : BitVec n₃) (v₄ : BitVec n₄)
    {l₁ l₂ l₃ l₄ : Nat} (hc : c &&& m = c) (h₁ : ones l₁ n₁ &&& m = 0#32) (h₂ : ones l₂ n₂ &&& m = 0#32)
    (h₃ : ones l₃ n₃ &&& m = 0#32) (h₄ : ones l₄ n₄ &&& m = 0#32) :
    (c ||| place v₁ l₁ ||| place v₂ l₂ ||| place v₃ l₃ ||| place v₄ l₄) &&& m = c :=
  or_masked (masked3 v₁ v₂ v₃ hc h₁ h₂ h₃) (place_reserved v₄ l₄ h₄)

/-- A field whose fixed bits are 0 holds the operand. -/
theorem zero_or_eq {n : Nat} {c v w : BitVec n} (hc : c = 0#n) (hv : v = w) : c ||| v = w := by
  rw [hc, hv, BitVec.zero_or]

/-- A 26-bit operand is the join of the two fields that hold it (R125). -/
theorem join26 {c : BitVec 10} {d : BitVec 16} (v : BitVec 26) (hc : c = 0#10) (hd : d = 0#16) :
    (c ||| v.extractLsb' 16 10) ++ (d ||| v.extractLsb' 0 16) = v := by
  rw [hc, hd, BitVec.zero_or, BitVec.zero_or]
  apply BitVec.eq_of_getLsbD_eq
  intro i hi
  rw [BitVec.getLsbD_append, BitVec.getLsbD_extractLsb', BitVec.getLsbD_extractLsb']
  by_cases h : i < 16
  · simp [h]
  · have h1 : i - 16 < 10 := by omega
    have h2 : 16 + (i - 16) = i := by omega
    simp [h, h1, h2]

/-- A 21-bit operand is the join of the two fields that hold it (R125). -/
theorem join21 {c : BitVec 5} {d : BitVec 16} (v : BitVec 21) (hc : c = 0#5) (hd : d = 0#16) :
    (c ||| v.extractLsb' 16 5) ++ (d ||| v.extractLsb' 0 16) = v := by
  rw [hc, hd, BitVec.zero_or, BitVec.zero_or]
  apply BitVec.eq_of_getLsbD_eq
  intro i hi
  rw [BitVec.getLsbD_append, BitVec.getLsbD_extractLsb', BitVec.getLsbD_extractLsb']
  by_cases h : i < 16
  · simp [h]
  · have h1 : i - 16 < 5 := by omega
    have h2 : 16 + (i - 16) = i := by omega
    simp [h, h1, h2]

theorem EncodedRow.addW (rd : RegNum) (rj : RegNum) (rk : RegNum) : EncodedRow.Statement (.addW rd rj rk) := by
  refine ⟨_, List.mem_of_getElem? (i := 0) rfl, fun _ => ?_, ?_⟩
  · exact Bool.and_eq_true_iff.mpr ⟨beq_iff_eq.mpr (masked3 _ _ _ rfl rfl rfl rfl), rfl⟩
  · simp (disch := omega) only [encode, field_or, field_place_same, field_place_other, BitVec.or_zero]
    congr 1
    · exact zero_or_eq rfl rfl
    · exact zero_or_eq rfl rfl
    · exact zero_or_eq rfl rfl

theorem EncodedRow.subW (rd : RegNum) (rj : RegNum) (rk : RegNum) : EncodedRow.Statement (.subW rd rj rk) := by
  refine ⟨_, List.mem_of_getElem? (i := 1) rfl, fun _ => ?_, ?_⟩
  · exact Bool.and_eq_true_iff.mpr ⟨beq_iff_eq.mpr (masked3 _ _ _ rfl rfl rfl rfl), rfl⟩
  · simp (disch := omega) only [encode, field_or, field_place_same, field_place_other, BitVec.or_zero]
    congr 1
    · exact zero_or_eq rfl rfl
    · exact zero_or_eq rfl rfl
    · exact zero_or_eq rfl rfl

theorem EncodedRow.addiW (rd : RegNum) (rj : RegNum) (si12 : BitVec 12) : EncodedRow.Statement (.addiW rd rj si12) := by
  refine ⟨_, List.mem_of_getElem? (i := 2) rfl, fun _ => ?_, ?_⟩
  · exact Bool.and_eq_true_iff.mpr ⟨beq_iff_eq.mpr (masked3 _ _ _ rfl rfl rfl rfl), rfl⟩
  · simp (disch := omega) only [encode, field_or, field_place_same, field_place_other, BitVec.or_zero]
    congr 1
    · exact zero_or_eq rfl rfl
    · exact zero_or_eq rfl rfl
    · exact zero_or_eq rfl rfl

theorem EncodedRow.lu12iW (rd : RegNum) (si20 : BitVec 20) : EncodedRow.Statement (.lu12iW rd si20) := by
  refine ⟨_, List.mem_of_getElem? (i := 3) rfl, fun _ => ?_, ?_⟩
  · exact Bool.and_eq_true_iff.mpr ⟨beq_iff_eq.mpr (masked2 _ _ rfl rfl rfl), rfl⟩
  · simp (disch := omega) only [encode, field_or, field_place_same, field_place_other, BitVec.or_zero]
    congr 1
    · exact zero_or_eq rfl rfl
    · exact zero_or_eq rfl rfl

theorem EncodedRow.slt (rd : RegNum) (rj : RegNum) (rk : RegNum) : EncodedRow.Statement (.slt rd rj rk) := by
  refine ⟨_, List.mem_of_getElem? (i := 4) rfl, fun _ => ?_, ?_⟩
  · exact Bool.and_eq_true_iff.mpr ⟨beq_iff_eq.mpr (masked3 _ _ _ rfl rfl rfl rfl), rfl⟩
  · simp (disch := omega) only [encode, field_or, field_place_same, field_place_other, BitVec.or_zero]
    congr 1
    · exact zero_or_eq rfl rfl
    · exact zero_or_eq rfl rfl
    · exact zero_or_eq rfl rfl

theorem EncodedRow.sltu (rd : RegNum) (rj : RegNum) (rk : RegNum) : EncodedRow.Statement (.sltu rd rj rk) := by
  refine ⟨_, List.mem_of_getElem? (i := 5) rfl, fun _ => ?_, ?_⟩
  · exact Bool.and_eq_true_iff.mpr ⟨beq_iff_eq.mpr (masked3 _ _ _ rfl rfl rfl rfl), rfl⟩
  · simp (disch := omega) only [encode, field_or, field_place_same, field_place_other, BitVec.or_zero]
    congr 1
    · exact zero_or_eq rfl rfl
    · exact zero_or_eq rfl rfl
    · exact zero_or_eq rfl rfl

theorem EncodedRow.slti (rd : RegNum) (rj : RegNum) (si12 : BitVec 12) : EncodedRow.Statement (.slti rd rj si12) := by
  refine ⟨_, List.mem_of_getElem? (i := 6) rfl, fun _ => ?_, ?_⟩
  · exact Bool.and_eq_true_iff.mpr ⟨beq_iff_eq.mpr (masked3 _ _ _ rfl rfl rfl rfl), rfl⟩
  · simp (disch := omega) only [encode, field_or, field_place_same, field_place_other, BitVec.or_zero]
    congr 1
    · exact zero_or_eq rfl rfl
    · exact zero_or_eq rfl rfl
    · exact zero_or_eq rfl rfl

theorem EncodedRow.sltui (rd : RegNum) (rj : RegNum) (si12 : BitVec 12) : EncodedRow.Statement (.sltui rd rj si12) := by
  refine ⟨_, List.mem_of_getElem? (i := 7) rfl, fun _ => ?_, ?_⟩
  · exact Bool.and_eq_true_iff.mpr ⟨beq_iff_eq.mpr (masked3 _ _ _ rfl rfl rfl rfl), rfl⟩
  · simp (disch := omega) only [encode, field_or, field_place_same, field_place_other, BitVec.or_zero]
    congr 1
    · exact zero_or_eq rfl rfl
    · exact zero_or_eq rfl rfl
    · exact zero_or_eq rfl rfl

theorem EncodedRow.pcaddu12i (rd : RegNum) (si20 : BitVec 20) : EncodedRow.Statement (.pcaddu12i rd si20) := by
  refine ⟨_, List.mem_of_getElem? (i := 8) rfl, fun _ => ?_, ?_⟩
  · exact Bool.and_eq_true_iff.mpr ⟨beq_iff_eq.mpr (masked2 _ _ rfl rfl rfl), rfl⟩
  · simp (disch := omega) only [encode, field_or, field_place_same, field_place_other, BitVec.or_zero]
    congr 1
    · exact zero_or_eq rfl rfl
    · exact zero_or_eq rfl rfl

theorem EncodedRow.mulW (rd : RegNum) (rj : RegNum) (rk : RegNum) : EncodedRow.Statement (.mulW rd rj rk) := by
  refine ⟨_, List.mem_of_getElem? (i := 9) rfl, fun _ => ?_, ?_⟩
  · exact Bool.and_eq_true_iff.mpr ⟨beq_iff_eq.mpr (masked3 _ _ _ rfl rfl rfl rfl), rfl⟩
  · simp (disch := omega) only [encode, field_or, field_place_same, field_place_other, BitVec.or_zero]
    congr 1
    · exact zero_or_eq rfl rfl
    · exact zero_or_eq rfl rfl
    · exact zero_or_eq rfl rfl

theorem EncodedRow.mulhW (rd : RegNum) (rj : RegNum) (rk : RegNum) : EncodedRow.Statement (.mulhW rd rj rk) := by
  refine ⟨_, List.mem_of_getElem? (i := 10) rfl, fun _ => ?_, ?_⟩
  · exact Bool.and_eq_true_iff.mpr ⟨beq_iff_eq.mpr (masked3 _ _ _ rfl rfl rfl rfl), rfl⟩
  · simp (disch := omega) only [encode, field_or, field_place_same, field_place_other, BitVec.or_zero]
    congr 1
    · exact zero_or_eq rfl rfl
    · exact zero_or_eq rfl rfl
    · exact zero_or_eq rfl rfl

theorem EncodedRow.mulhWu (rd : RegNum) (rj : RegNum) (rk : RegNum) : EncodedRow.Statement (.mulhWu rd rj rk) := by
  refine ⟨_, List.mem_of_getElem? (i := 11) rfl, fun _ => ?_, ?_⟩
  · exact Bool.and_eq_true_iff.mpr ⟨beq_iff_eq.mpr (masked3 _ _ _ rfl rfl rfl rfl), rfl⟩
  · simp (disch := omega) only [encode, field_or, field_place_same, field_place_other, BitVec.or_zero]
    congr 1
    · exact zero_or_eq rfl rfl
    · exact zero_or_eq rfl rfl
    · exact zero_or_eq rfl rfl

theorem EncodedRow.divW (rd : RegNum) (rj : RegNum) (rk : RegNum) : EncodedRow.Statement (.divW rd rj rk) := by
  refine ⟨_, List.mem_of_getElem? (i := 12) rfl, fun _ => ?_, ?_⟩
  · exact Bool.and_eq_true_iff.mpr ⟨beq_iff_eq.mpr (masked3 _ _ _ rfl rfl rfl rfl), rfl⟩
  · simp (disch := omega) only [encode, field_or, field_place_same, field_place_other, BitVec.or_zero]
    congr 1
    · exact zero_or_eq rfl rfl
    · exact zero_or_eq rfl rfl
    · exact zero_or_eq rfl rfl

theorem EncodedRow.divWu (rd : RegNum) (rj : RegNum) (rk : RegNum) : EncodedRow.Statement (.divWu rd rj rk) := by
  refine ⟨_, List.mem_of_getElem? (i := 13) rfl, fun _ => ?_, ?_⟩
  · exact Bool.and_eq_true_iff.mpr ⟨beq_iff_eq.mpr (masked3 _ _ _ rfl rfl rfl rfl), rfl⟩
  · simp (disch := omega) only [encode, field_or, field_place_same, field_place_other, BitVec.or_zero]
    congr 1
    · exact zero_or_eq rfl rfl
    · exact zero_or_eq rfl rfl
    · exact zero_or_eq rfl rfl

theorem EncodedRow.modW (rd : RegNum) (rj : RegNum) (rk : RegNum) : EncodedRow.Statement (.modW rd rj rk) := by
  refine ⟨_, List.mem_of_getElem? (i := 14) rfl, fun _ => ?_, ?_⟩
  · exact Bool.and_eq_true_iff.mpr ⟨beq_iff_eq.mpr (masked3 _ _ _ rfl rfl rfl rfl), rfl⟩
  · simp (disch := omega) only [encode, field_or, field_place_same, field_place_other, BitVec.or_zero]
    congr 1
    · exact zero_or_eq rfl rfl
    · exact zero_or_eq rfl rfl
    · exact zero_or_eq rfl rfl

theorem EncodedRow.modWu (rd : RegNum) (rj : RegNum) (rk : RegNum) : EncodedRow.Statement (.modWu rd rj rk) := by
  refine ⟨_, List.mem_of_getElem? (i := 15) rfl, fun _ => ?_, ?_⟩
  · exact Bool.and_eq_true_iff.mpr ⟨beq_iff_eq.mpr (masked3 _ _ _ rfl rfl rfl rfl), rfl⟩
  · simp (disch := omega) only [encode, field_or, field_place_same, field_place_other, BitVec.or_zero]
    congr 1
    · exact zero_or_eq rfl rfl
    · exact zero_or_eq rfl rfl
    · exact zero_or_eq rfl rfl

theorem EncodedRow.and (rd : RegNum) (rj : RegNum) (rk : RegNum) : EncodedRow.Statement (.and rd rj rk) := by
  refine ⟨_, List.mem_of_getElem? (i := 16) rfl, fun _ => ?_, ?_⟩
  · exact Bool.and_eq_true_iff.mpr ⟨beq_iff_eq.mpr (masked3 _ _ _ rfl rfl rfl rfl), rfl⟩
  · simp (disch := omega) only [encode, field_or, field_place_same, field_place_other, BitVec.or_zero]
    congr 1
    · exact zero_or_eq rfl rfl
    · exact zero_or_eq rfl rfl
    · exact zero_or_eq rfl rfl

theorem EncodedRow.or (rd : RegNum) (rj : RegNum) (rk : RegNum) : EncodedRow.Statement (.or rd rj rk) := by
  refine ⟨_, List.mem_of_getElem? (i := 17) rfl, fun _ => ?_, ?_⟩
  · exact Bool.and_eq_true_iff.mpr ⟨beq_iff_eq.mpr (masked3 _ _ _ rfl rfl rfl rfl), rfl⟩
  · simp (disch := omega) only [encode, field_or, field_place_same, field_place_other, BitVec.or_zero]
    congr 1
    · exact zero_or_eq rfl rfl
    · exact zero_or_eq rfl rfl
    · exact zero_or_eq rfl rfl

theorem EncodedRow.nor (rd : RegNum) (rj : RegNum) (rk : RegNum) : EncodedRow.Statement (.nor rd rj rk) := by
  refine ⟨_, List.mem_of_getElem? (i := 18) rfl, fun _ => ?_, ?_⟩
  · exact Bool.and_eq_true_iff.mpr ⟨beq_iff_eq.mpr (masked3 _ _ _ rfl rfl rfl rfl), rfl⟩
  · simp (disch := omega) only [encode, field_or, field_place_same, field_place_other, BitVec.or_zero]
    congr 1
    · exact zero_or_eq rfl rfl
    · exact zero_or_eq rfl rfl
    · exact zero_or_eq rfl rfl

theorem EncodedRow.xor (rd : RegNum) (rj : RegNum) (rk : RegNum) : EncodedRow.Statement (.xor rd rj rk) := by
  refine ⟨_, List.mem_of_getElem? (i := 19) rfl, fun _ => ?_, ?_⟩
  · exact Bool.and_eq_true_iff.mpr ⟨beq_iff_eq.mpr (masked3 _ _ _ rfl rfl rfl rfl), rfl⟩
  · simp (disch := omega) only [encode, field_or, field_place_same, field_place_other, BitVec.or_zero]
    congr 1
    · exact zero_or_eq rfl rfl
    · exact zero_or_eq rfl rfl
    · exact zero_or_eq rfl rfl

theorem EncodedRow.andi (rd : RegNum) (rj : RegNum) (ui12 : BitVec 12) : EncodedRow.Statement (.andi rd rj ui12) := by
  refine ⟨_, List.mem_of_getElem? (i := 20) rfl, fun _ => ?_, ?_⟩
  · exact Bool.and_eq_true_iff.mpr ⟨beq_iff_eq.mpr (masked3 _ _ _ rfl rfl rfl rfl), rfl⟩
  · simp (disch := omega) only [encode, field_or, field_place_same, field_place_other, BitVec.or_zero]
    congr 1
    · exact zero_or_eq rfl rfl
    · exact zero_or_eq rfl rfl
    · exact zero_or_eq rfl rfl

theorem EncodedRow.ori (rd : RegNum) (rj : RegNum) (ui12 : BitVec 12) : EncodedRow.Statement (.ori rd rj ui12) := by
  refine ⟨_, List.mem_of_getElem? (i := 21) rfl, fun _ => ?_, ?_⟩
  · exact Bool.and_eq_true_iff.mpr ⟨beq_iff_eq.mpr (masked3 _ _ _ rfl rfl rfl rfl), rfl⟩
  · simp (disch := omega) only [encode, field_or, field_place_same, field_place_other, BitVec.or_zero]
    congr 1
    · exact zero_or_eq rfl rfl
    · exact zero_or_eq rfl rfl
    · exact zero_or_eq rfl rfl

theorem EncodedRow.xori (rd : RegNum) (rj : RegNum) (ui12 : BitVec 12) : EncodedRow.Statement (.xori rd rj ui12) := by
  refine ⟨_, List.mem_of_getElem? (i := 22) rfl, fun _ => ?_, ?_⟩
  · exact Bool.and_eq_true_iff.mpr ⟨beq_iff_eq.mpr (masked3 _ _ _ rfl rfl rfl rfl), rfl⟩
  · simp (disch := omega) only [encode, field_or, field_place_same, field_place_other, BitVec.or_zero]
    congr 1
    · exact zero_or_eq rfl rfl
    · exact zero_or_eq rfl rfl
    · exact zero_or_eq rfl rfl

theorem EncodedRow.sllW (rd : RegNum) (rj : RegNum) (rk : RegNum) : EncodedRow.Statement (.sllW rd rj rk) := by
  refine ⟨_, List.mem_of_getElem? (i := 23) rfl, fun _ => ?_, ?_⟩
  · exact Bool.and_eq_true_iff.mpr ⟨beq_iff_eq.mpr (masked3 _ _ _ rfl rfl rfl rfl), rfl⟩
  · simp (disch := omega) only [encode, field_or, field_place_same, field_place_other, BitVec.or_zero]
    congr 1
    · exact zero_or_eq rfl rfl
    · exact zero_or_eq rfl rfl
    · exact zero_or_eq rfl rfl

theorem EncodedRow.srlW (rd : RegNum) (rj : RegNum) (rk : RegNum) : EncodedRow.Statement (.srlW rd rj rk) := by
  refine ⟨_, List.mem_of_getElem? (i := 24) rfl, fun _ => ?_, ?_⟩
  · exact Bool.and_eq_true_iff.mpr ⟨beq_iff_eq.mpr (masked3 _ _ _ rfl rfl rfl rfl), rfl⟩
  · simp (disch := omega) only [encode, field_or, field_place_same, field_place_other, BitVec.or_zero]
    congr 1
    · exact zero_or_eq rfl rfl
    · exact zero_or_eq rfl rfl
    · exact zero_or_eq rfl rfl

theorem EncodedRow.sraW (rd : RegNum) (rj : RegNum) (rk : RegNum) : EncodedRow.Statement (.sraW rd rj rk) := by
  refine ⟨_, List.mem_of_getElem? (i := 25) rfl, fun _ => ?_, ?_⟩
  · exact Bool.and_eq_true_iff.mpr ⟨beq_iff_eq.mpr (masked3 _ _ _ rfl rfl rfl rfl), rfl⟩
  · simp (disch := omega) only [encode, field_or, field_place_same, field_place_other, BitVec.or_zero]
    congr 1
    · exact zero_or_eq rfl rfl
    · exact zero_or_eq rfl rfl
    · exact zero_or_eq rfl rfl

theorem EncodedRow.slliW (rd : RegNum) (rj : RegNum) (ui5 : BitVec 5) : EncodedRow.Statement (.slliW rd rj ui5) := by
  refine ⟨_, List.mem_of_getElem? (i := 26) rfl, fun _ => ?_, ?_⟩
  · exact Bool.and_eq_true_iff.mpr ⟨beq_iff_eq.mpr (masked3 _ _ _ rfl rfl rfl rfl), rfl⟩
  · simp (disch := omega) only [encode, field_or, field_place_same, field_place_other, BitVec.or_zero]
    congr 1
    · exact zero_or_eq rfl rfl
    · exact zero_or_eq rfl rfl
    · exact zero_or_eq rfl rfl

theorem EncodedRow.srliW (rd : RegNum) (rj : RegNum) (ui5 : BitVec 5) : EncodedRow.Statement (.srliW rd rj ui5) := by
  refine ⟨_, List.mem_of_getElem? (i := 27) rfl, fun _ => ?_, ?_⟩
  · exact Bool.and_eq_true_iff.mpr ⟨beq_iff_eq.mpr (masked3 _ _ _ rfl rfl rfl rfl), rfl⟩
  · simp (disch := omega) only [encode, field_or, field_place_same, field_place_other, BitVec.or_zero]
    congr 1
    · exact zero_or_eq rfl rfl
    · exact zero_or_eq rfl rfl
    · exact zero_or_eq rfl rfl

theorem EncodedRow.sraiW (rd : RegNum) (rj : RegNum) (ui5 : BitVec 5) : EncodedRow.Statement (.sraiW rd rj ui5) := by
  refine ⟨_, List.mem_of_getElem? (i := 28) rfl, fun _ => ?_, ?_⟩
  · exact Bool.and_eq_true_iff.mpr ⟨beq_iff_eq.mpr (masked3 _ _ _ rfl rfl rfl rfl), rfl⟩
  · simp (disch := omega) only [encode, field_or, field_place_same, field_place_other, BitVec.or_zero]
    congr 1
    · exact zero_or_eq rfl rfl
    · exact zero_or_eq rfl rfl
    · exact zero_or_eq rfl rfl

theorem EncodedRow.beq (rj : RegNum) (rd : RegNum) (offs16 : BitVec 16) : EncodedRow.Statement (.beq rj rd offs16) := by
  refine ⟨_, List.mem_of_getElem? (i := 29) rfl, fun _ => ?_, ?_⟩
  · exact Bool.and_eq_true_iff.mpr ⟨beq_iff_eq.mpr (masked3 _ _ _ rfl rfl rfl rfl), rfl⟩
  · simp (disch := omega) only [encode, field_or, field_place_same, field_place_other, BitVec.or_zero]
    congr 1
    · exact zero_or_eq rfl rfl
    · exact zero_or_eq rfl rfl
    · exact zero_or_eq rfl rfl

theorem EncodedRow.bne (rj : RegNum) (rd : RegNum) (offs16 : BitVec 16) : EncodedRow.Statement (.bne rj rd offs16) := by
  refine ⟨_, List.mem_of_getElem? (i := 30) rfl, fun _ => ?_, ?_⟩
  · exact Bool.and_eq_true_iff.mpr ⟨beq_iff_eq.mpr (masked3 _ _ _ rfl rfl rfl rfl), rfl⟩
  · simp (disch := omega) only [encode, field_or, field_place_same, field_place_other, BitVec.or_zero]
    congr 1
    · exact zero_or_eq rfl rfl
    · exact zero_or_eq rfl rfl
    · exact zero_or_eq rfl rfl

theorem EncodedRow.blt (rj : RegNum) (rd : RegNum) (offs16 : BitVec 16) : EncodedRow.Statement (.blt rj rd offs16) := by
  refine ⟨_, List.mem_of_getElem? (i := 31) rfl, fun _ => ?_, ?_⟩
  · exact Bool.and_eq_true_iff.mpr ⟨beq_iff_eq.mpr (masked3 _ _ _ rfl rfl rfl rfl), rfl⟩
  · simp (disch := omega) only [encode, field_or, field_place_same, field_place_other, BitVec.or_zero]
    congr 1
    · exact zero_or_eq rfl rfl
    · exact zero_or_eq rfl rfl
    · exact zero_or_eq rfl rfl

theorem EncodedRow.bge (rj : RegNum) (rd : RegNum) (offs16 : BitVec 16) : EncodedRow.Statement (.bge rj rd offs16) := by
  refine ⟨_, List.mem_of_getElem? (i := 32) rfl, fun _ => ?_, ?_⟩
  · exact Bool.and_eq_true_iff.mpr ⟨beq_iff_eq.mpr (masked3 _ _ _ rfl rfl rfl rfl), rfl⟩
  · simp (disch := omega) only [encode, field_or, field_place_same, field_place_other, BitVec.or_zero]
    congr 1
    · exact zero_or_eq rfl rfl
    · exact zero_or_eq rfl rfl
    · exact zero_or_eq rfl rfl

theorem EncodedRow.bltu (rj : RegNum) (rd : RegNum) (offs16 : BitVec 16) : EncodedRow.Statement (.bltu rj rd offs16) := by
  refine ⟨_, List.mem_of_getElem? (i := 33) rfl, fun _ => ?_, ?_⟩
  · exact Bool.and_eq_true_iff.mpr ⟨beq_iff_eq.mpr (masked3 _ _ _ rfl rfl rfl rfl), rfl⟩
  · simp (disch := omega) only [encode, field_or, field_place_same, field_place_other, BitVec.or_zero]
    congr 1
    · exact zero_or_eq rfl rfl
    · exact zero_or_eq rfl rfl
    · exact zero_or_eq rfl rfl

theorem EncodedRow.bgeu (rj : RegNum) (rd : RegNum) (offs16 : BitVec 16) : EncodedRow.Statement (.bgeu rj rd offs16) := by
  refine ⟨_, List.mem_of_getElem? (i := 34) rfl, fun _ => ?_, ?_⟩
  · exact Bool.and_eq_true_iff.mpr ⟨beq_iff_eq.mpr (masked3 _ _ _ rfl rfl rfl rfl), rfl⟩
  · simp (disch := omega) only [encode, field_or, field_place_same, field_place_other, BitVec.or_zero]
    congr 1
    · exact zero_or_eq rfl rfl
    · exact zero_or_eq rfl rfl
    · exact zero_or_eq rfl rfl

theorem EncodedRow.b (offs26 : BitVec 26) : EncodedRow.Statement (.b offs26) := by
  refine ⟨_, List.mem_of_getElem? (i := 35) rfl, fun _ => ?_, ?_⟩
  · exact Bool.and_eq_true_iff.mpr ⟨beq_iff_eq.mpr (masked2 _ _ rfl rfl rfl), rfl⟩
  · simp (disch := omega) only [encode, field_or, field_place_same, field_place_other, BitVec.or_zero]
    exact congrArg _ (join26 _ rfl rfl)

theorem EncodedRow.bl (offs26 : BitVec 26) : EncodedRow.Statement (.bl offs26) := by
  refine ⟨_, List.mem_of_getElem? (i := 36) rfl, fun _ => ?_, ?_⟩
  · exact Bool.and_eq_true_iff.mpr ⟨beq_iff_eq.mpr (masked2 _ _ rfl rfl rfl), rfl⟩
  · simp (disch := omega) only [encode, field_or, field_place_same, field_place_other, BitVec.or_zero]
    exact congrArg _ (join26 _ rfl rfl)

theorem EncodedRow.jirl (rd : RegNum) (rj : RegNum) (offs16 : BitVec 16) : EncodedRow.Statement (.jirl rd rj offs16) := by
  refine ⟨_, List.mem_of_getElem? (i := 37) rfl, fun _ => ?_, ?_⟩
  · exact Bool.and_eq_true_iff.mpr ⟨beq_iff_eq.mpr (masked3 _ _ _ rfl rfl rfl rfl), rfl⟩
  · simp (disch := omega) only [encode, field_or, field_place_same, field_place_other, BitVec.or_zero]
    congr 1
    · exact zero_or_eq rfl rfl
    · exact zero_or_eq rfl rfl
    · exact zero_or_eq rfl rfl

theorem EncodedRow.ldB (rd : RegNum) (rj : RegNum) (si12 : BitVec 12) : EncodedRow.Statement (.ldB rd rj si12) := by
  refine ⟨_, List.mem_of_getElem? (i := 38) rfl, fun _ => ?_, ?_⟩
  · exact Bool.and_eq_true_iff.mpr ⟨beq_iff_eq.mpr (masked3 _ _ _ rfl rfl rfl rfl), rfl⟩
  · simp (disch := omega) only [encode, field_or, field_place_same, field_place_other, BitVec.or_zero]
    congr 1
    · exact zero_or_eq rfl rfl
    · exact zero_or_eq rfl rfl
    · exact zero_or_eq rfl rfl

theorem EncodedRow.ldH (rd : RegNum) (rj : RegNum) (si12 : BitVec 12) : EncodedRow.Statement (.ldH rd rj si12) := by
  refine ⟨_, List.mem_of_getElem? (i := 39) rfl, fun _ => ?_, ?_⟩
  · exact Bool.and_eq_true_iff.mpr ⟨beq_iff_eq.mpr (masked3 _ _ _ rfl rfl rfl rfl), rfl⟩
  · simp (disch := omega) only [encode, field_or, field_place_same, field_place_other, BitVec.or_zero]
    congr 1
    · exact zero_or_eq rfl rfl
    · exact zero_or_eq rfl rfl
    · exact zero_or_eq rfl rfl

theorem EncodedRow.ldW (rd : RegNum) (rj : RegNum) (si12 : BitVec 12) : EncodedRow.Statement (.ldW rd rj si12) := by
  refine ⟨_, List.mem_of_getElem? (i := 40) rfl, fun _ => ?_, ?_⟩
  · exact Bool.and_eq_true_iff.mpr ⟨beq_iff_eq.mpr (masked3 _ _ _ rfl rfl rfl rfl), rfl⟩
  · simp (disch := omega) only [encode, field_or, field_place_same, field_place_other, BitVec.or_zero]
    congr 1
    · exact zero_or_eq rfl rfl
    · exact zero_or_eq rfl rfl
    · exact zero_or_eq rfl rfl

theorem EncodedRow.ldBu (rd : RegNum) (rj : RegNum) (si12 : BitVec 12) : EncodedRow.Statement (.ldBu rd rj si12) := by
  refine ⟨_, List.mem_of_getElem? (i := 41) rfl, fun _ => ?_, ?_⟩
  · exact Bool.and_eq_true_iff.mpr ⟨beq_iff_eq.mpr (masked3 _ _ _ rfl rfl rfl rfl), rfl⟩
  · simp (disch := omega) only [encode, field_or, field_place_same, field_place_other, BitVec.or_zero]
    congr 1
    · exact zero_or_eq rfl rfl
    · exact zero_or_eq rfl rfl
    · exact zero_or_eq rfl rfl

theorem EncodedRow.ldHu (rd : RegNum) (rj : RegNum) (si12 : BitVec 12) : EncodedRow.Statement (.ldHu rd rj si12) := by
  refine ⟨_, List.mem_of_getElem? (i := 42) rfl, fun _ => ?_, ?_⟩
  · exact Bool.and_eq_true_iff.mpr ⟨beq_iff_eq.mpr (masked3 _ _ _ rfl rfl rfl rfl), rfl⟩
  · simp (disch := omega) only [encode, field_or, field_place_same, field_place_other, BitVec.or_zero]
    congr 1
    · exact zero_or_eq rfl rfl
    · exact zero_or_eq rfl rfl
    · exact zero_or_eq rfl rfl

theorem EncodedRow.stB (rd : RegNum) (rj : RegNum) (si12 : BitVec 12) : EncodedRow.Statement (.stB rd rj si12) := by
  refine ⟨_, List.mem_of_getElem? (i := 43) rfl, fun _ => ?_, ?_⟩
  · exact Bool.and_eq_true_iff.mpr ⟨beq_iff_eq.mpr (masked3 _ _ _ rfl rfl rfl rfl), rfl⟩
  · simp (disch := omega) only [encode, field_or, field_place_same, field_place_other, BitVec.or_zero]
    congr 1
    · exact zero_or_eq rfl rfl
    · exact zero_or_eq rfl rfl
    · exact zero_or_eq rfl rfl

theorem EncodedRow.stH (rd : RegNum) (rj : RegNum) (si12 : BitVec 12) : EncodedRow.Statement (.stH rd rj si12) := by
  refine ⟨_, List.mem_of_getElem? (i := 44) rfl, fun _ => ?_, ?_⟩
  · exact Bool.and_eq_true_iff.mpr ⟨beq_iff_eq.mpr (masked3 _ _ _ rfl rfl rfl rfl), rfl⟩
  · simp (disch := omega) only [encode, field_or, field_place_same, field_place_other, BitVec.or_zero]
    congr 1
    · exact zero_or_eq rfl rfl
    · exact zero_or_eq rfl rfl
    · exact zero_or_eq rfl rfl

theorem EncodedRow.stW (rd : RegNum) (rj : RegNum) (si12 : BitVec 12) : EncodedRow.Statement (.stW rd rj si12) := by
  refine ⟨_, List.mem_of_getElem? (i := 45) rfl, fun _ => ?_, ?_⟩
  · exact Bool.and_eq_true_iff.mpr ⟨beq_iff_eq.mpr (masked3 _ _ _ rfl rfl rfl rfl), rfl⟩
  · simp (disch := omega) only [encode, field_or, field_place_same, field_place_other, BitVec.or_zero]
    congr 1
    · exact zero_or_eq rfl rfl
    · exact zero_or_eq rfl rfl
    · exact zero_or_eq rfl rfl

theorem EncodedRow.preld (hint : BitVec 5) (rj : RegNum) (si12 : BitVec 12) : EncodedRow.Statement (.preld hint rj si12) := by
  refine ⟨_, List.mem_of_getElem? (i := 46) rfl, fun _ => ?_, ?_⟩
  · exact Bool.and_eq_true_iff.mpr ⟨beq_iff_eq.mpr (masked3 _ _ _ rfl rfl rfl rfl), rfl⟩
  · simp (disch := omega) only [encode, field_or, field_place_same, field_place_other, BitVec.or_zero]
    congr 1
    · exact zero_or_eq rfl rfl
    · exact zero_or_eq rfl rfl
    · exact zero_or_eq rfl rfl

theorem EncodedRow.llW (rd : RegNum) (rj : RegNum) (si14 : BitVec 14) : EncodedRow.Statement (.llW rd rj si14) := by
  refine ⟨_, List.mem_of_getElem? (i := 47) rfl, fun _ => ?_, ?_⟩
  · exact Bool.and_eq_true_iff.mpr ⟨beq_iff_eq.mpr (masked3 _ _ _ rfl rfl rfl rfl), rfl⟩
  · simp (disch := omega) only [encode, field_or, field_place_same, field_place_other, BitVec.or_zero]
    congr 1
    · exact zero_or_eq rfl rfl
    · exact zero_or_eq rfl rfl
    · exact zero_or_eq rfl rfl

theorem EncodedRow.scW (rd : RegNum) (rj : RegNum) (si14 : BitVec 14) : EncodedRow.Statement (.scW rd rj si14) := by
  refine ⟨_, List.mem_of_getElem? (i := 48) rfl, fun _ => ?_, ?_⟩
  · exact Bool.and_eq_true_iff.mpr ⟨beq_iff_eq.mpr (masked3 _ _ _ rfl rfl rfl rfl), rfl⟩
  · simp (disch := omega) only [encode, field_or, field_place_same, field_place_other, BitVec.or_zero]
    congr 1
    · exact zero_or_eq rfl rfl
    · exact zero_or_eq rfl rfl
    · exact zero_or_eq rfl rfl

theorem EncodedRow.dbar (hint : BitVec 15) : EncodedRow.Statement (.dbar hint) := by
  refine ⟨_, List.mem_of_getElem? (i := 49) rfl, fun _ => ?_, ?_⟩
  · exact Bool.and_eq_true_iff.mpr ⟨beq_iff_eq.mpr (masked1 _ rfl rfl), rfl⟩
  · simp (disch := omega) only [encode, field_or, field_place_same]
    congr 1
    · exact zero_or_eq rfl rfl

theorem EncodedRow.ibar (hint : BitVec 15) : EncodedRow.Statement (.ibar hint) := by
  refine ⟨_, List.mem_of_getElem? (i := 50) rfl, fun _ => ?_, ?_⟩
  · exact Bool.and_eq_true_iff.mpr ⟨beq_iff_eq.mpr (masked1 _ rfl rfl), rfl⟩
  · simp (disch := omega) only [encode, field_or, field_place_same]
    congr 1
    · exact zero_or_eq rfl rfl

theorem EncodedRow.syscall (code : BitVec 15) : EncodedRow.Statement (.syscall code) := by
  refine ⟨_, List.mem_of_getElem? (i := 51) rfl, fun _ => ?_, ?_⟩
  · exact Bool.and_eq_true_iff.mpr ⟨beq_iff_eq.mpr (masked1 _ rfl rfl), rfl⟩
  · simp (disch := omega) only [encode, field_or, field_place_same]
    congr 1
    · exact zero_or_eq rfl rfl

theorem EncodedRow.brk (code : BitVec 15) : EncodedRow.Statement (.brk code) := by
  refine ⟨_, List.mem_of_getElem? (i := 52) rfl, fun _ => ?_, ?_⟩
  · exact Bool.and_eq_true_iff.mpr ⟨beq_iff_eq.mpr (masked1 _ rfl rfl), rfl⟩
  · simp (disch := omega) only [encode, field_or, field_place_same]
    congr 1
    · exact zero_or_eq rfl rfl

theorem EncodedRow.rdcntvlW (rd : RegNum) : EncodedRow.Statement (.rdcntvlW rd) := by
  refine ⟨_, List.mem_of_getElem? (i := 53) rfl, fun _ => ?_, ?_⟩
  · exact Bool.and_eq_true_iff.mpr ⟨beq_iff_eq.mpr (masked1 _ rfl rfl), rfl⟩
  · simp (disch := omega) only [encode, field_or, field_place_same]
    congr 1
    · exact zero_or_eq rfl rfl

theorem EncodedRow.rdcntvhW (rd : RegNum) : EncodedRow.Statement (.rdcntvhW rd) := by
  refine ⟨_, List.mem_of_getElem? (i := 54) rfl, fun _ => ?_, ?_⟩
  · exact Bool.and_eq_true_iff.mpr ⟨beq_iff_eq.mpr (masked1 _ rfl rfl), rfl⟩
  · simp (disch := omega) only [encode, field_or, field_place_same]
    congr 1
    · exact zero_or_eq rfl rfl

theorem EncodedRow.rdcntid (rj : RegNum) : EncodedRow.Statement (.rdcntid rj) := by
  refine ⟨_, List.mem_of_getElem? (i := 55) rfl, fun h => ?_, ?_⟩
  · refine Bool.and_eq_true_iff.mpr ⟨beq_iff_eq.mpr (masked1 _ rfl rfl), ?_⟩
    simp (disch := omega) only [encode, field_or, field_place_same]
    have hc : field 0x00006000#32 5 5 = 0#5 := rfl
    simp only [hc, BitVec.zero_or]
    exact h
  · simp (disch := omega) only [encode, field_or, field_place_same]
    congr 1
    · exact zero_or_eq rfl rfl

theorem EncodedRow.faddS (fd : RegNum) (fj : RegNum) (fk : RegNum) : EncodedRow.Statement (.faddS fd fj fk) := by
  refine ⟨_, List.mem_of_getElem? (i := 56) rfl, fun _ => ?_, ?_⟩
  · exact Bool.and_eq_true_iff.mpr ⟨beq_iff_eq.mpr (masked3 _ _ _ rfl rfl rfl rfl), rfl⟩
  · simp (disch := omega) only [encode, field_or, field_place_same, field_place_other, BitVec.or_zero]
    congr 1
    · exact zero_or_eq rfl rfl
    · exact zero_or_eq rfl rfl
    · exact zero_or_eq rfl rfl

theorem EncodedRow.faddD (fd : RegNum) (fj : RegNum) (fk : RegNum) : EncodedRow.Statement (.faddD fd fj fk) := by
  refine ⟨_, List.mem_of_getElem? (i := 57) rfl, fun _ => ?_, ?_⟩
  · exact Bool.and_eq_true_iff.mpr ⟨beq_iff_eq.mpr (masked3 _ _ _ rfl rfl rfl rfl), rfl⟩
  · simp (disch := omega) only [encode, field_or, field_place_same, field_place_other, BitVec.or_zero]
    congr 1
    · exact zero_or_eq rfl rfl
    · exact zero_or_eq rfl rfl
    · exact zero_or_eq rfl rfl

theorem EncodedRow.fsubS (fd : RegNum) (fj : RegNum) (fk : RegNum) : EncodedRow.Statement (.fsubS fd fj fk) := by
  refine ⟨_, List.mem_of_getElem? (i := 58) rfl, fun _ => ?_, ?_⟩
  · exact Bool.and_eq_true_iff.mpr ⟨beq_iff_eq.mpr (masked3 _ _ _ rfl rfl rfl rfl), rfl⟩
  · simp (disch := omega) only [encode, field_or, field_place_same, field_place_other, BitVec.or_zero]
    congr 1
    · exact zero_or_eq rfl rfl
    · exact zero_or_eq rfl rfl
    · exact zero_or_eq rfl rfl

theorem EncodedRow.fsubD (fd : RegNum) (fj : RegNum) (fk : RegNum) : EncodedRow.Statement (.fsubD fd fj fk) := by
  refine ⟨_, List.mem_of_getElem? (i := 59) rfl, fun _ => ?_, ?_⟩
  · exact Bool.and_eq_true_iff.mpr ⟨beq_iff_eq.mpr (masked3 _ _ _ rfl rfl rfl rfl), rfl⟩
  · simp (disch := omega) only [encode, field_or, field_place_same, field_place_other, BitVec.or_zero]
    congr 1
    · exact zero_or_eq rfl rfl
    · exact zero_or_eq rfl rfl
    · exact zero_or_eq rfl rfl

theorem EncodedRow.fmulS (fd : RegNum) (fj : RegNum) (fk : RegNum) : EncodedRow.Statement (.fmulS fd fj fk) := by
  refine ⟨_, List.mem_of_getElem? (i := 60) rfl, fun _ => ?_, ?_⟩
  · exact Bool.and_eq_true_iff.mpr ⟨beq_iff_eq.mpr (masked3 _ _ _ rfl rfl rfl rfl), rfl⟩
  · simp (disch := omega) only [encode, field_or, field_place_same, field_place_other, BitVec.or_zero]
    congr 1
    · exact zero_or_eq rfl rfl
    · exact zero_or_eq rfl rfl
    · exact zero_or_eq rfl rfl

theorem EncodedRow.fmulD (fd : RegNum) (fj : RegNum) (fk : RegNum) : EncodedRow.Statement (.fmulD fd fj fk) := by
  refine ⟨_, List.mem_of_getElem? (i := 61) rfl, fun _ => ?_, ?_⟩
  · exact Bool.and_eq_true_iff.mpr ⟨beq_iff_eq.mpr (masked3 _ _ _ rfl rfl rfl rfl), rfl⟩
  · simp (disch := omega) only [encode, field_or, field_place_same, field_place_other, BitVec.or_zero]
    congr 1
    · exact zero_or_eq rfl rfl
    · exact zero_or_eq rfl rfl
    · exact zero_or_eq rfl rfl

theorem EncodedRow.fdivS (fd : RegNum) (fj : RegNum) (fk : RegNum) : EncodedRow.Statement (.fdivS fd fj fk) := by
  refine ⟨_, List.mem_of_getElem? (i := 62) rfl, fun _ => ?_, ?_⟩
  · exact Bool.and_eq_true_iff.mpr ⟨beq_iff_eq.mpr (masked3 _ _ _ rfl rfl rfl rfl), rfl⟩
  · simp (disch := omega) only [encode, field_or, field_place_same, field_place_other, BitVec.or_zero]
    congr 1
    · exact zero_or_eq rfl rfl
    · exact zero_or_eq rfl rfl
    · exact zero_or_eq rfl rfl

theorem EncodedRow.fdivD (fd : RegNum) (fj : RegNum) (fk : RegNum) : EncodedRow.Statement (.fdivD fd fj fk) := by
  refine ⟨_, List.mem_of_getElem? (i := 63) rfl, fun _ => ?_, ?_⟩
  · exact Bool.and_eq_true_iff.mpr ⟨beq_iff_eq.mpr (masked3 _ _ _ rfl rfl rfl rfl), rfl⟩
  · simp (disch := omega) only [encode, field_or, field_place_same, field_place_other, BitVec.or_zero]
    congr 1
    · exact zero_or_eq rfl rfl
    · exact zero_or_eq rfl rfl
    · exact zero_or_eq rfl rfl

theorem EncodedRow.fmaddS (fd : RegNum) (fj : RegNum) (fk : RegNum) (fa : RegNum) : EncodedRow.Statement (.fmaddS fd fj fk fa) := by
  refine ⟨_, List.mem_of_getElem? (i := 64) rfl, fun _ => ?_, ?_⟩
  · exact Bool.and_eq_true_iff.mpr ⟨beq_iff_eq.mpr (masked4 _ _ _ _ rfl rfl rfl rfl rfl), rfl⟩
  · simp (disch := omega) only [encode, field_or, field_place_same, field_place_other, BitVec.or_zero]
    congr 1
    · exact zero_or_eq rfl rfl
    · exact zero_or_eq rfl rfl
    · exact zero_or_eq rfl rfl
    · exact zero_or_eq rfl rfl

theorem EncodedRow.fmaddD (fd : RegNum) (fj : RegNum) (fk : RegNum) (fa : RegNum) : EncodedRow.Statement (.fmaddD fd fj fk fa) := by
  refine ⟨_, List.mem_of_getElem? (i := 65) rfl, fun _ => ?_, ?_⟩
  · exact Bool.and_eq_true_iff.mpr ⟨beq_iff_eq.mpr (masked4 _ _ _ _ rfl rfl rfl rfl rfl), rfl⟩
  · simp (disch := omega) only [encode, field_or, field_place_same, field_place_other, BitVec.or_zero]
    congr 1
    · exact zero_or_eq rfl rfl
    · exact zero_or_eq rfl rfl
    · exact zero_or_eq rfl rfl
    · exact zero_or_eq rfl rfl

theorem EncodedRow.fmsubS (fd : RegNum) (fj : RegNum) (fk : RegNum) (fa : RegNum) : EncodedRow.Statement (.fmsubS fd fj fk fa) := by
  refine ⟨_, List.mem_of_getElem? (i := 66) rfl, fun _ => ?_, ?_⟩
  · exact Bool.and_eq_true_iff.mpr ⟨beq_iff_eq.mpr (masked4 _ _ _ _ rfl rfl rfl rfl rfl), rfl⟩
  · simp (disch := omega) only [encode, field_or, field_place_same, field_place_other, BitVec.or_zero]
    congr 1
    · exact zero_or_eq rfl rfl
    · exact zero_or_eq rfl rfl
    · exact zero_or_eq rfl rfl
    · exact zero_or_eq rfl rfl

theorem EncodedRow.fmsubD (fd : RegNum) (fj : RegNum) (fk : RegNum) (fa : RegNum) : EncodedRow.Statement (.fmsubD fd fj fk fa) := by
  refine ⟨_, List.mem_of_getElem? (i := 67) rfl, fun _ => ?_, ?_⟩
  · exact Bool.and_eq_true_iff.mpr ⟨beq_iff_eq.mpr (masked4 _ _ _ _ rfl rfl rfl rfl rfl), rfl⟩
  · simp (disch := omega) only [encode, field_or, field_place_same, field_place_other, BitVec.or_zero]
    congr 1
    · exact zero_or_eq rfl rfl
    · exact zero_or_eq rfl rfl
    · exact zero_or_eq rfl rfl
    · exact zero_or_eq rfl rfl

theorem EncodedRow.fnmaddS (fd : RegNum) (fj : RegNum) (fk : RegNum) (fa : RegNum) : EncodedRow.Statement (.fnmaddS fd fj fk fa) := by
  refine ⟨_, List.mem_of_getElem? (i := 68) rfl, fun _ => ?_, ?_⟩
  · exact Bool.and_eq_true_iff.mpr ⟨beq_iff_eq.mpr (masked4 _ _ _ _ rfl rfl rfl rfl rfl), rfl⟩
  · simp (disch := omega) only [encode, field_or, field_place_same, field_place_other, BitVec.or_zero]
    congr 1
    · exact zero_or_eq rfl rfl
    · exact zero_or_eq rfl rfl
    · exact zero_or_eq rfl rfl
    · exact zero_or_eq rfl rfl

theorem EncodedRow.fnmaddD (fd : RegNum) (fj : RegNum) (fk : RegNum) (fa : RegNum) : EncodedRow.Statement (.fnmaddD fd fj fk fa) := by
  refine ⟨_, List.mem_of_getElem? (i := 69) rfl, fun _ => ?_, ?_⟩
  · exact Bool.and_eq_true_iff.mpr ⟨beq_iff_eq.mpr (masked4 _ _ _ _ rfl rfl rfl rfl rfl), rfl⟩
  · simp (disch := omega) only [encode, field_or, field_place_same, field_place_other, BitVec.or_zero]
    congr 1
    · exact zero_or_eq rfl rfl
    · exact zero_or_eq rfl rfl
    · exact zero_or_eq rfl rfl
    · exact zero_or_eq rfl rfl

theorem EncodedRow.fnmsubS (fd : RegNum) (fj : RegNum) (fk : RegNum) (fa : RegNum) : EncodedRow.Statement (.fnmsubS fd fj fk fa) := by
  refine ⟨_, List.mem_of_getElem? (i := 70) rfl, fun _ => ?_, ?_⟩
  · exact Bool.and_eq_true_iff.mpr ⟨beq_iff_eq.mpr (masked4 _ _ _ _ rfl rfl rfl rfl rfl), rfl⟩
  · simp (disch := omega) only [encode, field_or, field_place_same, field_place_other, BitVec.or_zero]
    congr 1
    · exact zero_or_eq rfl rfl
    · exact zero_or_eq rfl rfl
    · exact zero_or_eq rfl rfl
    · exact zero_or_eq rfl rfl

theorem EncodedRow.fnmsubD (fd : RegNum) (fj : RegNum) (fk : RegNum) (fa : RegNum) : EncodedRow.Statement (.fnmsubD fd fj fk fa) := by
  refine ⟨_, List.mem_of_getElem? (i := 71) rfl, fun _ => ?_, ?_⟩
  · exact Bool.and_eq_true_iff.mpr ⟨beq_iff_eq.mpr (masked4 _ _ _ _ rfl rfl rfl rfl rfl), rfl⟩
  · simp (disch := omega) only [encode, field_or, field_place_same, field_place_other, BitVec.or_zero]
    congr 1
    · exact zero_or_eq rfl rfl
    · exact zero_or_eq rfl rfl
    · exact zero_or_eq rfl rfl
    · exact zero_or_eq rfl rfl

theorem EncodedRow.fmaxS (fd : RegNum) (fj : RegNum) (fk : RegNum) : EncodedRow.Statement (.fmaxS fd fj fk) := by
  refine ⟨_, List.mem_of_getElem? (i := 72) rfl, fun _ => ?_, ?_⟩
  · exact Bool.and_eq_true_iff.mpr ⟨beq_iff_eq.mpr (masked3 _ _ _ rfl rfl rfl rfl), rfl⟩
  · simp (disch := omega) only [encode, field_or, field_place_same, field_place_other, BitVec.or_zero]
    congr 1
    · exact zero_or_eq rfl rfl
    · exact zero_or_eq rfl rfl
    · exact zero_or_eq rfl rfl

theorem EncodedRow.fmaxD (fd : RegNum) (fj : RegNum) (fk : RegNum) : EncodedRow.Statement (.fmaxD fd fj fk) := by
  refine ⟨_, List.mem_of_getElem? (i := 73) rfl, fun _ => ?_, ?_⟩
  · exact Bool.and_eq_true_iff.mpr ⟨beq_iff_eq.mpr (masked3 _ _ _ rfl rfl rfl rfl), rfl⟩
  · simp (disch := omega) only [encode, field_or, field_place_same, field_place_other, BitVec.or_zero]
    congr 1
    · exact zero_or_eq rfl rfl
    · exact zero_or_eq rfl rfl
    · exact zero_or_eq rfl rfl

theorem EncodedRow.fminS (fd : RegNum) (fj : RegNum) (fk : RegNum) : EncodedRow.Statement (.fminS fd fj fk) := by
  refine ⟨_, List.mem_of_getElem? (i := 74) rfl, fun _ => ?_, ?_⟩
  · exact Bool.and_eq_true_iff.mpr ⟨beq_iff_eq.mpr (masked3 _ _ _ rfl rfl rfl rfl), rfl⟩
  · simp (disch := omega) only [encode, field_or, field_place_same, field_place_other, BitVec.or_zero]
    congr 1
    · exact zero_or_eq rfl rfl
    · exact zero_or_eq rfl rfl
    · exact zero_or_eq rfl rfl

theorem EncodedRow.fminD (fd : RegNum) (fj : RegNum) (fk : RegNum) : EncodedRow.Statement (.fminD fd fj fk) := by
  refine ⟨_, List.mem_of_getElem? (i := 75) rfl, fun _ => ?_, ?_⟩
  · exact Bool.and_eq_true_iff.mpr ⟨beq_iff_eq.mpr (masked3 _ _ _ rfl rfl rfl rfl), rfl⟩
  · simp (disch := omega) only [encode, field_or, field_place_same, field_place_other, BitVec.or_zero]
    congr 1
    · exact zero_or_eq rfl rfl
    · exact zero_or_eq rfl rfl
    · exact zero_or_eq rfl rfl

theorem EncodedRow.fmaxaS (fd : RegNum) (fj : RegNum) (fk : RegNum) : EncodedRow.Statement (.fmaxaS fd fj fk) := by
  refine ⟨_, List.mem_of_getElem? (i := 76) rfl, fun _ => ?_, ?_⟩
  · exact Bool.and_eq_true_iff.mpr ⟨beq_iff_eq.mpr (masked3 _ _ _ rfl rfl rfl rfl), rfl⟩
  · simp (disch := omega) only [encode, field_or, field_place_same, field_place_other, BitVec.or_zero]
    congr 1
    · exact zero_or_eq rfl rfl
    · exact zero_or_eq rfl rfl
    · exact zero_or_eq rfl rfl

theorem EncodedRow.fmaxaD (fd : RegNum) (fj : RegNum) (fk : RegNum) : EncodedRow.Statement (.fmaxaD fd fj fk) := by
  refine ⟨_, List.mem_of_getElem? (i := 77) rfl, fun _ => ?_, ?_⟩
  · exact Bool.and_eq_true_iff.mpr ⟨beq_iff_eq.mpr (masked3 _ _ _ rfl rfl rfl rfl), rfl⟩
  · simp (disch := omega) only [encode, field_or, field_place_same, field_place_other, BitVec.or_zero]
    congr 1
    · exact zero_or_eq rfl rfl
    · exact zero_or_eq rfl rfl
    · exact zero_or_eq rfl rfl

theorem EncodedRow.fminaS (fd : RegNum) (fj : RegNum) (fk : RegNum) : EncodedRow.Statement (.fminaS fd fj fk) := by
  refine ⟨_, List.mem_of_getElem? (i := 78) rfl, fun _ => ?_, ?_⟩
  · exact Bool.and_eq_true_iff.mpr ⟨beq_iff_eq.mpr (masked3 _ _ _ rfl rfl rfl rfl), rfl⟩
  · simp (disch := omega) only [encode, field_or, field_place_same, field_place_other, BitVec.or_zero]
    congr 1
    · exact zero_or_eq rfl rfl
    · exact zero_or_eq rfl rfl
    · exact zero_or_eq rfl rfl

theorem EncodedRow.fminaD (fd : RegNum) (fj : RegNum) (fk : RegNum) : EncodedRow.Statement (.fminaD fd fj fk) := by
  refine ⟨_, List.mem_of_getElem? (i := 79) rfl, fun _ => ?_, ?_⟩
  · exact Bool.and_eq_true_iff.mpr ⟨beq_iff_eq.mpr (masked3 _ _ _ rfl rfl rfl rfl), rfl⟩
  · simp (disch := omega) only [encode, field_or, field_place_same, field_place_other, BitVec.or_zero]
    congr 1
    · exact zero_or_eq rfl rfl
    · exact zero_or_eq rfl rfl
    · exact zero_or_eq rfl rfl

theorem EncodedRow.fabsS (fd : RegNum) (fj : RegNum) : EncodedRow.Statement (.fabsS fd fj) := by
  refine ⟨_, List.mem_of_getElem? (i := 80) rfl, fun _ => ?_, ?_⟩
  · exact Bool.and_eq_true_iff.mpr ⟨beq_iff_eq.mpr (masked2 _ _ rfl rfl rfl), rfl⟩
  · simp (disch := omega) only [encode, field_or, field_place_same, field_place_other, BitVec.or_zero]
    congr 1
    · exact zero_or_eq rfl rfl
    · exact zero_or_eq rfl rfl

theorem EncodedRow.fabsD (fd : RegNum) (fj : RegNum) : EncodedRow.Statement (.fabsD fd fj) := by
  refine ⟨_, List.mem_of_getElem? (i := 81) rfl, fun _ => ?_, ?_⟩
  · exact Bool.and_eq_true_iff.mpr ⟨beq_iff_eq.mpr (masked2 _ _ rfl rfl rfl), rfl⟩
  · simp (disch := omega) only [encode, field_or, field_place_same, field_place_other, BitVec.or_zero]
    congr 1
    · exact zero_or_eq rfl rfl
    · exact zero_or_eq rfl rfl

theorem EncodedRow.fnegS (fd : RegNum) (fj : RegNum) : EncodedRow.Statement (.fnegS fd fj) := by
  refine ⟨_, List.mem_of_getElem? (i := 82) rfl, fun _ => ?_, ?_⟩
  · exact Bool.and_eq_true_iff.mpr ⟨beq_iff_eq.mpr (masked2 _ _ rfl rfl rfl), rfl⟩
  · simp (disch := omega) only [encode, field_or, field_place_same, field_place_other, BitVec.or_zero]
    congr 1
    · exact zero_or_eq rfl rfl
    · exact zero_or_eq rfl rfl

theorem EncodedRow.fnegD (fd : RegNum) (fj : RegNum) : EncodedRow.Statement (.fnegD fd fj) := by
  refine ⟨_, List.mem_of_getElem? (i := 83) rfl, fun _ => ?_, ?_⟩
  · exact Bool.and_eq_true_iff.mpr ⟨beq_iff_eq.mpr (masked2 _ _ rfl rfl rfl), rfl⟩
  · simp (disch := omega) only [encode, field_or, field_place_same, field_place_other, BitVec.or_zero]
    congr 1
    · exact zero_or_eq rfl rfl
    · exact zero_or_eq rfl rfl

theorem EncodedRow.fsqrtS (fd : RegNum) (fj : RegNum) : EncodedRow.Statement (.fsqrtS fd fj) := by
  refine ⟨_, List.mem_of_getElem? (i := 84) rfl, fun _ => ?_, ?_⟩
  · exact Bool.and_eq_true_iff.mpr ⟨beq_iff_eq.mpr (masked2 _ _ rfl rfl rfl), rfl⟩
  · simp (disch := omega) only [encode, field_or, field_place_same, field_place_other, BitVec.or_zero]
    congr 1
    · exact zero_or_eq rfl rfl
    · exact zero_or_eq rfl rfl

theorem EncodedRow.fsqrtD (fd : RegNum) (fj : RegNum) : EncodedRow.Statement (.fsqrtD fd fj) := by
  refine ⟨_, List.mem_of_getElem? (i := 85) rfl, fun _ => ?_, ?_⟩
  · exact Bool.and_eq_true_iff.mpr ⟨beq_iff_eq.mpr (masked2 _ _ rfl rfl rfl), rfl⟩
  · simp (disch := omega) only [encode, field_or, field_place_same, field_place_other, BitVec.or_zero]
    congr 1
    · exact zero_or_eq rfl rfl
    · exact zero_or_eq rfl rfl

theorem EncodedRow.frecipS (fd : RegNum) (fj : RegNum) : EncodedRow.Statement (.frecipS fd fj) := by
  refine ⟨_, List.mem_of_getElem? (i := 86) rfl, fun _ => ?_, ?_⟩
  · exact Bool.and_eq_true_iff.mpr ⟨beq_iff_eq.mpr (masked2 _ _ rfl rfl rfl), rfl⟩
  · simp (disch := omega) only [encode, field_or, field_place_same, field_place_other, BitVec.or_zero]
    congr 1
    · exact zero_or_eq rfl rfl
    · exact zero_or_eq rfl rfl

theorem EncodedRow.frecipD (fd : RegNum) (fj : RegNum) : EncodedRow.Statement (.frecipD fd fj) := by
  refine ⟨_, List.mem_of_getElem? (i := 87) rfl, fun _ => ?_, ?_⟩
  · exact Bool.and_eq_true_iff.mpr ⟨beq_iff_eq.mpr (masked2 _ _ rfl rfl rfl), rfl⟩
  · simp (disch := omega) only [encode, field_or, field_place_same, field_place_other, BitVec.or_zero]
    congr 1
    · exact zero_or_eq rfl rfl
    · exact zero_or_eq rfl rfl

theorem EncodedRow.frsqrtS (fd : RegNum) (fj : RegNum) : EncodedRow.Statement (.frsqrtS fd fj) := by
  refine ⟨_, List.mem_of_getElem? (i := 88) rfl, fun _ => ?_, ?_⟩
  · exact Bool.and_eq_true_iff.mpr ⟨beq_iff_eq.mpr (masked2 _ _ rfl rfl rfl), rfl⟩
  · simp (disch := omega) only [encode, field_or, field_place_same, field_place_other, BitVec.or_zero]
    congr 1
    · exact zero_or_eq rfl rfl
    · exact zero_or_eq rfl rfl

theorem EncodedRow.frsqrtD (fd : RegNum) (fj : RegNum) : EncodedRow.Statement (.frsqrtD fd fj) := by
  refine ⟨_, List.mem_of_getElem? (i := 89) rfl, fun _ => ?_, ?_⟩
  · exact Bool.and_eq_true_iff.mpr ⟨beq_iff_eq.mpr (masked2 _ _ rfl rfl rfl), rfl⟩
  · simp (disch := omega) only [encode, field_or, field_place_same, field_place_other, BitVec.or_zero]
    congr 1
    · exact zero_or_eq rfl rfl
    · exact zero_or_eq rfl rfl

theorem EncodedRow.fcopysignS (fd : RegNum) (fj : RegNum) (fk : RegNum) : EncodedRow.Statement (.fcopysignS fd fj fk) := by
  refine ⟨_, List.mem_of_getElem? (i := 90) rfl, fun _ => ?_, ?_⟩
  · exact Bool.and_eq_true_iff.mpr ⟨beq_iff_eq.mpr (masked3 _ _ _ rfl rfl rfl rfl), rfl⟩
  · simp (disch := omega) only [encode, field_or, field_place_same, field_place_other, BitVec.or_zero]
    congr 1
    · exact zero_or_eq rfl rfl
    · exact zero_or_eq rfl rfl
    · exact zero_or_eq rfl rfl

theorem EncodedRow.fcopysignD (fd : RegNum) (fj : RegNum) (fk : RegNum) : EncodedRow.Statement (.fcopysignD fd fj fk) := by
  refine ⟨_, List.mem_of_getElem? (i := 91) rfl, fun _ => ?_, ?_⟩
  · exact Bool.and_eq_true_iff.mpr ⟨beq_iff_eq.mpr (masked3 _ _ _ rfl rfl rfl rfl), rfl⟩
  · simp (disch := omega) only [encode, field_or, field_place_same, field_place_other, BitVec.or_zero]
    congr 1
    · exact zero_or_eq rfl rfl
    · exact zero_or_eq rfl rfl
    · exact zero_or_eq rfl rfl

theorem EncodedRow.fclassS (fd : RegNum) (fj : RegNum) : EncodedRow.Statement (.fclassS fd fj) := by
  refine ⟨_, List.mem_of_getElem? (i := 92) rfl, fun _ => ?_, ?_⟩
  · exact Bool.and_eq_true_iff.mpr ⟨beq_iff_eq.mpr (masked2 _ _ rfl rfl rfl), rfl⟩
  · simp (disch := omega) only [encode, field_or, field_place_same, field_place_other, BitVec.or_zero]
    congr 1
    · exact zero_or_eq rfl rfl
    · exact zero_or_eq rfl rfl

theorem EncodedRow.fclassD (fd : RegNum) (fj : RegNum) : EncodedRow.Statement (.fclassD fd fj) := by
  refine ⟨_, List.mem_of_getElem? (i := 93) rfl, fun _ => ?_, ?_⟩
  · exact Bool.and_eq_true_iff.mpr ⟨beq_iff_eq.mpr (masked2 _ _ rfl rfl rfl), rfl⟩
  · simp (disch := omega) only [encode, field_or, field_place_same, field_place_other, BitVec.or_zero]
    congr 1
    · exact zero_or_eq rfl rfl
    · exact zero_or_eq rfl rfl

theorem EncodedRow.fcmpCafS (cd : FlagNum) (fj : RegNum) (fk : RegNum) : EncodedRow.Statement (.fcmpCafS cd fj fk) := by
  refine ⟨_, List.mem_of_getElem? (i := 94) rfl, fun _ => ?_, ?_⟩
  · exact Bool.and_eq_true_iff.mpr ⟨beq_iff_eq.mpr (masked3 _ _ _ rfl rfl rfl rfl), rfl⟩
  · simp (disch := omega) only [encode, field_or, field_place_same, field_place_other, BitVec.or_zero]
    congr 1
    · exact zero_or_eq rfl rfl
    · exact zero_or_eq rfl rfl
    · exact zero_or_eq rfl rfl

theorem EncodedRow.fcmpCunS (cd : FlagNum) (fj : RegNum) (fk : RegNum) : EncodedRow.Statement (.fcmpCunS cd fj fk) := by
  refine ⟨_, List.mem_of_getElem? (i := 95) rfl, fun _ => ?_, ?_⟩
  · exact Bool.and_eq_true_iff.mpr ⟨beq_iff_eq.mpr (masked3 _ _ _ rfl rfl rfl rfl), rfl⟩
  · simp (disch := omega) only [encode, field_or, field_place_same, field_place_other, BitVec.or_zero]
    congr 1
    · exact zero_or_eq rfl rfl
    · exact zero_or_eq rfl rfl
    · exact zero_or_eq rfl rfl

theorem EncodedRow.fcmpCeqS (cd : FlagNum) (fj : RegNum) (fk : RegNum) : EncodedRow.Statement (.fcmpCeqS cd fj fk) := by
  refine ⟨_, List.mem_of_getElem? (i := 96) rfl, fun _ => ?_, ?_⟩
  · exact Bool.and_eq_true_iff.mpr ⟨beq_iff_eq.mpr (masked3 _ _ _ rfl rfl rfl rfl), rfl⟩
  · simp (disch := omega) only [encode, field_or, field_place_same, field_place_other, BitVec.or_zero]
    congr 1
    · exact zero_or_eq rfl rfl
    · exact zero_or_eq rfl rfl
    · exact zero_or_eq rfl rfl

theorem EncodedRow.fcmpCueqS (cd : FlagNum) (fj : RegNum) (fk : RegNum) : EncodedRow.Statement (.fcmpCueqS cd fj fk) := by
  refine ⟨_, List.mem_of_getElem? (i := 97) rfl, fun _ => ?_, ?_⟩
  · exact Bool.and_eq_true_iff.mpr ⟨beq_iff_eq.mpr (masked3 _ _ _ rfl rfl rfl rfl), rfl⟩
  · simp (disch := omega) only [encode, field_or, field_place_same, field_place_other, BitVec.or_zero]
    congr 1
    · exact zero_or_eq rfl rfl
    · exact zero_or_eq rfl rfl
    · exact zero_or_eq rfl rfl

theorem EncodedRow.fcmpCltS (cd : FlagNum) (fj : RegNum) (fk : RegNum) : EncodedRow.Statement (.fcmpCltS cd fj fk) := by
  refine ⟨_, List.mem_of_getElem? (i := 98) rfl, fun _ => ?_, ?_⟩
  · exact Bool.and_eq_true_iff.mpr ⟨beq_iff_eq.mpr (masked3 _ _ _ rfl rfl rfl rfl), rfl⟩
  · simp (disch := omega) only [encode, field_or, field_place_same, field_place_other, BitVec.or_zero]
    congr 1
    · exact zero_or_eq rfl rfl
    · exact zero_or_eq rfl rfl
    · exact zero_or_eq rfl rfl

theorem EncodedRow.fcmpCultS (cd : FlagNum) (fj : RegNum) (fk : RegNum) : EncodedRow.Statement (.fcmpCultS cd fj fk) := by
  refine ⟨_, List.mem_of_getElem? (i := 99) rfl, fun _ => ?_, ?_⟩
  · exact Bool.and_eq_true_iff.mpr ⟨beq_iff_eq.mpr (masked3 _ _ _ rfl rfl rfl rfl), rfl⟩
  · simp (disch := omega) only [encode, field_or, field_place_same, field_place_other, BitVec.or_zero]
    congr 1
    · exact zero_or_eq rfl rfl
    · exact zero_or_eq rfl rfl
    · exact zero_or_eq rfl rfl

theorem EncodedRow.fcmpCleS (cd : FlagNum) (fj : RegNum) (fk : RegNum) : EncodedRow.Statement (.fcmpCleS cd fj fk) := by
  refine ⟨_, List.mem_of_getElem? (i := 100) rfl, fun _ => ?_, ?_⟩
  · exact Bool.and_eq_true_iff.mpr ⟨beq_iff_eq.mpr (masked3 _ _ _ rfl rfl rfl rfl), rfl⟩
  · simp (disch := omega) only [encode, field_or, field_place_same, field_place_other, BitVec.or_zero]
    congr 1
    · exact zero_or_eq rfl rfl
    · exact zero_or_eq rfl rfl
    · exact zero_or_eq rfl rfl

theorem EncodedRow.fcmpCuleS (cd : FlagNum) (fj : RegNum) (fk : RegNum) : EncodedRow.Statement (.fcmpCuleS cd fj fk) := by
  refine ⟨_, List.mem_of_getElem? (i := 101) rfl, fun _ => ?_, ?_⟩
  · exact Bool.and_eq_true_iff.mpr ⟨beq_iff_eq.mpr (masked3 _ _ _ rfl rfl rfl rfl), rfl⟩
  · simp (disch := omega) only [encode, field_or, field_place_same, field_place_other, BitVec.or_zero]
    congr 1
    · exact zero_or_eq rfl rfl
    · exact zero_or_eq rfl rfl
    · exact zero_or_eq rfl rfl

theorem EncodedRow.fcmpCneS (cd : FlagNum) (fj : RegNum) (fk : RegNum) : EncodedRow.Statement (.fcmpCneS cd fj fk) := by
  refine ⟨_, List.mem_of_getElem? (i := 102) rfl, fun _ => ?_, ?_⟩
  · exact Bool.and_eq_true_iff.mpr ⟨beq_iff_eq.mpr (masked3 _ _ _ rfl rfl rfl rfl), rfl⟩
  · simp (disch := omega) only [encode, field_or, field_place_same, field_place_other, BitVec.or_zero]
    congr 1
    · exact zero_or_eq rfl rfl
    · exact zero_or_eq rfl rfl
    · exact zero_or_eq rfl rfl

theorem EncodedRow.fcmpCorS (cd : FlagNum) (fj : RegNum) (fk : RegNum) : EncodedRow.Statement (.fcmpCorS cd fj fk) := by
  refine ⟨_, List.mem_of_getElem? (i := 103) rfl, fun _ => ?_, ?_⟩
  · exact Bool.and_eq_true_iff.mpr ⟨beq_iff_eq.mpr (masked3 _ _ _ rfl rfl rfl rfl), rfl⟩
  · simp (disch := omega) only [encode, field_or, field_place_same, field_place_other, BitVec.or_zero]
    congr 1
    · exact zero_or_eq rfl rfl
    · exact zero_or_eq rfl rfl
    · exact zero_or_eq rfl rfl

theorem EncodedRow.fcmpCuneS (cd : FlagNum) (fj : RegNum) (fk : RegNum) : EncodedRow.Statement (.fcmpCuneS cd fj fk) := by
  refine ⟨_, List.mem_of_getElem? (i := 104) rfl, fun _ => ?_, ?_⟩
  · exact Bool.and_eq_true_iff.mpr ⟨beq_iff_eq.mpr (masked3 _ _ _ rfl rfl rfl rfl), rfl⟩
  · simp (disch := omega) only [encode, field_or, field_place_same, field_place_other, BitVec.or_zero]
    congr 1
    · exact zero_or_eq rfl rfl
    · exact zero_or_eq rfl rfl
    · exact zero_or_eq rfl rfl

theorem EncodedRow.fcmpSafS (cd : FlagNum) (fj : RegNum) (fk : RegNum) : EncodedRow.Statement (.fcmpSafS cd fj fk) := by
  refine ⟨_, List.mem_of_getElem? (i := 105) rfl, fun _ => ?_, ?_⟩
  · exact Bool.and_eq_true_iff.mpr ⟨beq_iff_eq.mpr (masked3 _ _ _ rfl rfl rfl rfl), rfl⟩
  · simp (disch := omega) only [encode, field_or, field_place_same, field_place_other, BitVec.or_zero]
    congr 1
    · exact zero_or_eq rfl rfl
    · exact zero_or_eq rfl rfl
    · exact zero_or_eq rfl rfl

theorem EncodedRow.fcmpSunS (cd : FlagNum) (fj : RegNum) (fk : RegNum) : EncodedRow.Statement (.fcmpSunS cd fj fk) := by
  refine ⟨_, List.mem_of_getElem? (i := 106) rfl, fun _ => ?_, ?_⟩
  · exact Bool.and_eq_true_iff.mpr ⟨beq_iff_eq.mpr (masked3 _ _ _ rfl rfl rfl rfl), rfl⟩
  · simp (disch := omega) only [encode, field_or, field_place_same, field_place_other, BitVec.or_zero]
    congr 1
    · exact zero_or_eq rfl rfl
    · exact zero_or_eq rfl rfl
    · exact zero_or_eq rfl rfl

theorem EncodedRow.fcmpSeqS (cd : FlagNum) (fj : RegNum) (fk : RegNum) : EncodedRow.Statement (.fcmpSeqS cd fj fk) := by
  refine ⟨_, List.mem_of_getElem? (i := 107) rfl, fun _ => ?_, ?_⟩
  · exact Bool.and_eq_true_iff.mpr ⟨beq_iff_eq.mpr (masked3 _ _ _ rfl rfl rfl rfl), rfl⟩
  · simp (disch := omega) only [encode, field_or, field_place_same, field_place_other, BitVec.or_zero]
    congr 1
    · exact zero_or_eq rfl rfl
    · exact zero_or_eq rfl rfl
    · exact zero_or_eq rfl rfl

theorem EncodedRow.fcmpSueqS (cd : FlagNum) (fj : RegNum) (fk : RegNum) : EncodedRow.Statement (.fcmpSueqS cd fj fk) := by
  refine ⟨_, List.mem_of_getElem? (i := 108) rfl, fun _ => ?_, ?_⟩
  · exact Bool.and_eq_true_iff.mpr ⟨beq_iff_eq.mpr (masked3 _ _ _ rfl rfl rfl rfl), rfl⟩
  · simp (disch := omega) only [encode, field_or, field_place_same, field_place_other, BitVec.or_zero]
    congr 1
    · exact zero_or_eq rfl rfl
    · exact zero_or_eq rfl rfl
    · exact zero_or_eq rfl rfl

theorem EncodedRow.fcmpSltS (cd : FlagNum) (fj : RegNum) (fk : RegNum) : EncodedRow.Statement (.fcmpSltS cd fj fk) := by
  refine ⟨_, List.mem_of_getElem? (i := 109) rfl, fun _ => ?_, ?_⟩
  · exact Bool.and_eq_true_iff.mpr ⟨beq_iff_eq.mpr (masked3 _ _ _ rfl rfl rfl rfl), rfl⟩
  · simp (disch := omega) only [encode, field_or, field_place_same, field_place_other, BitVec.or_zero]
    congr 1
    · exact zero_or_eq rfl rfl
    · exact zero_or_eq rfl rfl
    · exact zero_or_eq rfl rfl

theorem EncodedRow.fcmpSultS (cd : FlagNum) (fj : RegNum) (fk : RegNum) : EncodedRow.Statement (.fcmpSultS cd fj fk) := by
  refine ⟨_, List.mem_of_getElem? (i := 110) rfl, fun _ => ?_, ?_⟩
  · exact Bool.and_eq_true_iff.mpr ⟨beq_iff_eq.mpr (masked3 _ _ _ rfl rfl rfl rfl), rfl⟩
  · simp (disch := omega) only [encode, field_or, field_place_same, field_place_other, BitVec.or_zero]
    congr 1
    · exact zero_or_eq rfl rfl
    · exact zero_or_eq rfl rfl
    · exact zero_or_eq rfl rfl

theorem EncodedRow.fcmpSleS (cd : FlagNum) (fj : RegNum) (fk : RegNum) : EncodedRow.Statement (.fcmpSleS cd fj fk) := by
  refine ⟨_, List.mem_of_getElem? (i := 111) rfl, fun _ => ?_, ?_⟩
  · exact Bool.and_eq_true_iff.mpr ⟨beq_iff_eq.mpr (masked3 _ _ _ rfl rfl rfl rfl), rfl⟩
  · simp (disch := omega) only [encode, field_or, field_place_same, field_place_other, BitVec.or_zero]
    congr 1
    · exact zero_or_eq rfl rfl
    · exact zero_or_eq rfl rfl
    · exact zero_or_eq rfl rfl

theorem EncodedRow.fcmpSuleS (cd : FlagNum) (fj : RegNum) (fk : RegNum) : EncodedRow.Statement (.fcmpSuleS cd fj fk) := by
  refine ⟨_, List.mem_of_getElem? (i := 112) rfl, fun _ => ?_, ?_⟩
  · exact Bool.and_eq_true_iff.mpr ⟨beq_iff_eq.mpr (masked3 _ _ _ rfl rfl rfl rfl), rfl⟩
  · simp (disch := omega) only [encode, field_or, field_place_same, field_place_other, BitVec.or_zero]
    congr 1
    · exact zero_or_eq rfl rfl
    · exact zero_or_eq rfl rfl
    · exact zero_or_eq rfl rfl

theorem EncodedRow.fcmpSneS (cd : FlagNum) (fj : RegNum) (fk : RegNum) : EncodedRow.Statement (.fcmpSneS cd fj fk) := by
  refine ⟨_, List.mem_of_getElem? (i := 113) rfl, fun _ => ?_, ?_⟩
  · exact Bool.and_eq_true_iff.mpr ⟨beq_iff_eq.mpr (masked3 _ _ _ rfl rfl rfl rfl), rfl⟩
  · simp (disch := omega) only [encode, field_or, field_place_same, field_place_other, BitVec.or_zero]
    congr 1
    · exact zero_or_eq rfl rfl
    · exact zero_or_eq rfl rfl
    · exact zero_or_eq rfl rfl

theorem EncodedRow.fcmpSorS (cd : FlagNum) (fj : RegNum) (fk : RegNum) : EncodedRow.Statement (.fcmpSorS cd fj fk) := by
  refine ⟨_, List.mem_of_getElem? (i := 114) rfl, fun _ => ?_, ?_⟩
  · exact Bool.and_eq_true_iff.mpr ⟨beq_iff_eq.mpr (masked3 _ _ _ rfl rfl rfl rfl), rfl⟩
  · simp (disch := omega) only [encode, field_or, field_place_same, field_place_other, BitVec.or_zero]
    congr 1
    · exact zero_or_eq rfl rfl
    · exact zero_or_eq rfl rfl
    · exact zero_or_eq rfl rfl

theorem EncodedRow.fcmpSuneS (cd : FlagNum) (fj : RegNum) (fk : RegNum) : EncodedRow.Statement (.fcmpSuneS cd fj fk) := by
  refine ⟨_, List.mem_of_getElem? (i := 115) rfl, fun _ => ?_, ?_⟩
  · exact Bool.and_eq_true_iff.mpr ⟨beq_iff_eq.mpr (masked3 _ _ _ rfl rfl rfl rfl), rfl⟩
  · simp (disch := omega) only [encode, field_or, field_place_same, field_place_other, BitVec.or_zero]
    congr 1
    · exact zero_or_eq rfl rfl
    · exact zero_or_eq rfl rfl
    · exact zero_or_eq rfl rfl

theorem EncodedRow.fcmpCafD (cd : FlagNum) (fj : RegNum) (fk : RegNum) : EncodedRow.Statement (.fcmpCafD cd fj fk) := by
  refine ⟨_, List.mem_of_getElem? (i := 116) rfl, fun _ => ?_, ?_⟩
  · exact Bool.and_eq_true_iff.mpr ⟨beq_iff_eq.mpr (masked3 _ _ _ rfl rfl rfl rfl), rfl⟩
  · simp (disch := omega) only [encode, field_or, field_place_same, field_place_other, BitVec.or_zero]
    congr 1
    · exact zero_or_eq rfl rfl
    · exact zero_or_eq rfl rfl
    · exact zero_or_eq rfl rfl

theorem EncodedRow.fcmpCunD (cd : FlagNum) (fj : RegNum) (fk : RegNum) : EncodedRow.Statement (.fcmpCunD cd fj fk) := by
  refine ⟨_, List.mem_of_getElem? (i := 117) rfl, fun _ => ?_, ?_⟩
  · exact Bool.and_eq_true_iff.mpr ⟨beq_iff_eq.mpr (masked3 _ _ _ rfl rfl rfl rfl), rfl⟩
  · simp (disch := omega) only [encode, field_or, field_place_same, field_place_other, BitVec.or_zero]
    congr 1
    · exact zero_or_eq rfl rfl
    · exact zero_or_eq rfl rfl
    · exact zero_or_eq rfl rfl

theorem EncodedRow.fcmpCeqD (cd : FlagNum) (fj : RegNum) (fk : RegNum) : EncodedRow.Statement (.fcmpCeqD cd fj fk) := by
  refine ⟨_, List.mem_of_getElem? (i := 118) rfl, fun _ => ?_, ?_⟩
  · exact Bool.and_eq_true_iff.mpr ⟨beq_iff_eq.mpr (masked3 _ _ _ rfl rfl rfl rfl), rfl⟩
  · simp (disch := omega) only [encode, field_or, field_place_same, field_place_other, BitVec.or_zero]
    congr 1
    · exact zero_or_eq rfl rfl
    · exact zero_or_eq rfl rfl
    · exact zero_or_eq rfl rfl

theorem EncodedRow.fcmpCueqD (cd : FlagNum) (fj : RegNum) (fk : RegNum) : EncodedRow.Statement (.fcmpCueqD cd fj fk) := by
  refine ⟨_, List.mem_of_getElem? (i := 119) rfl, fun _ => ?_, ?_⟩
  · exact Bool.and_eq_true_iff.mpr ⟨beq_iff_eq.mpr (masked3 _ _ _ rfl rfl rfl rfl), rfl⟩
  · simp (disch := omega) only [encode, field_or, field_place_same, field_place_other, BitVec.or_zero]
    congr 1
    · exact zero_or_eq rfl rfl
    · exact zero_or_eq rfl rfl
    · exact zero_or_eq rfl rfl

theorem EncodedRow.fcmpCltD (cd : FlagNum) (fj : RegNum) (fk : RegNum) : EncodedRow.Statement (.fcmpCltD cd fj fk) := by
  refine ⟨_, List.mem_of_getElem? (i := 120) rfl, fun _ => ?_, ?_⟩
  · exact Bool.and_eq_true_iff.mpr ⟨beq_iff_eq.mpr (masked3 _ _ _ rfl rfl rfl rfl), rfl⟩
  · simp (disch := omega) only [encode, field_or, field_place_same, field_place_other, BitVec.or_zero]
    congr 1
    · exact zero_or_eq rfl rfl
    · exact zero_or_eq rfl rfl
    · exact zero_or_eq rfl rfl

theorem EncodedRow.fcmpCultD (cd : FlagNum) (fj : RegNum) (fk : RegNum) : EncodedRow.Statement (.fcmpCultD cd fj fk) := by
  refine ⟨_, List.mem_of_getElem? (i := 121) rfl, fun _ => ?_, ?_⟩
  · exact Bool.and_eq_true_iff.mpr ⟨beq_iff_eq.mpr (masked3 _ _ _ rfl rfl rfl rfl), rfl⟩
  · simp (disch := omega) only [encode, field_or, field_place_same, field_place_other, BitVec.or_zero]
    congr 1
    · exact zero_or_eq rfl rfl
    · exact zero_or_eq rfl rfl
    · exact zero_or_eq rfl rfl

theorem EncodedRow.fcmpCleD (cd : FlagNum) (fj : RegNum) (fk : RegNum) : EncodedRow.Statement (.fcmpCleD cd fj fk) := by
  refine ⟨_, List.mem_of_getElem? (i := 122) rfl, fun _ => ?_, ?_⟩
  · exact Bool.and_eq_true_iff.mpr ⟨beq_iff_eq.mpr (masked3 _ _ _ rfl rfl rfl rfl), rfl⟩
  · simp (disch := omega) only [encode, field_or, field_place_same, field_place_other, BitVec.or_zero]
    congr 1
    · exact zero_or_eq rfl rfl
    · exact zero_or_eq rfl rfl
    · exact zero_or_eq rfl rfl

theorem EncodedRow.fcmpCuleD (cd : FlagNum) (fj : RegNum) (fk : RegNum) : EncodedRow.Statement (.fcmpCuleD cd fj fk) := by
  refine ⟨_, List.mem_of_getElem? (i := 123) rfl, fun _ => ?_, ?_⟩
  · exact Bool.and_eq_true_iff.mpr ⟨beq_iff_eq.mpr (masked3 _ _ _ rfl rfl rfl rfl), rfl⟩
  · simp (disch := omega) only [encode, field_or, field_place_same, field_place_other, BitVec.or_zero]
    congr 1
    · exact zero_or_eq rfl rfl
    · exact zero_or_eq rfl rfl
    · exact zero_or_eq rfl rfl

theorem EncodedRow.fcmpCneD (cd : FlagNum) (fj : RegNum) (fk : RegNum) : EncodedRow.Statement (.fcmpCneD cd fj fk) := by
  refine ⟨_, List.mem_of_getElem? (i := 124) rfl, fun _ => ?_, ?_⟩
  · exact Bool.and_eq_true_iff.mpr ⟨beq_iff_eq.mpr (masked3 _ _ _ rfl rfl rfl rfl), rfl⟩
  · simp (disch := omega) only [encode, field_or, field_place_same, field_place_other, BitVec.or_zero]
    congr 1
    · exact zero_or_eq rfl rfl
    · exact zero_or_eq rfl rfl
    · exact zero_or_eq rfl rfl

theorem EncodedRow.fcmpCorD (cd : FlagNum) (fj : RegNum) (fk : RegNum) : EncodedRow.Statement (.fcmpCorD cd fj fk) := by
  refine ⟨_, List.mem_of_getElem? (i := 125) rfl, fun _ => ?_, ?_⟩
  · exact Bool.and_eq_true_iff.mpr ⟨beq_iff_eq.mpr (masked3 _ _ _ rfl rfl rfl rfl), rfl⟩
  · simp (disch := omega) only [encode, field_or, field_place_same, field_place_other, BitVec.or_zero]
    congr 1
    · exact zero_or_eq rfl rfl
    · exact zero_or_eq rfl rfl
    · exact zero_or_eq rfl rfl

theorem EncodedRow.fcmpCuneD (cd : FlagNum) (fj : RegNum) (fk : RegNum) : EncodedRow.Statement (.fcmpCuneD cd fj fk) := by
  refine ⟨_, List.mem_of_getElem? (i := 126) rfl, fun _ => ?_, ?_⟩
  · exact Bool.and_eq_true_iff.mpr ⟨beq_iff_eq.mpr (masked3 _ _ _ rfl rfl rfl rfl), rfl⟩
  · simp (disch := omega) only [encode, field_or, field_place_same, field_place_other, BitVec.or_zero]
    congr 1
    · exact zero_or_eq rfl rfl
    · exact zero_or_eq rfl rfl
    · exact zero_or_eq rfl rfl

theorem EncodedRow.fcmpSafD (cd : FlagNum) (fj : RegNum) (fk : RegNum) : EncodedRow.Statement (.fcmpSafD cd fj fk) := by
  refine ⟨_, List.mem_of_getElem? (i := 127) rfl, fun _ => ?_, ?_⟩
  · exact Bool.and_eq_true_iff.mpr ⟨beq_iff_eq.mpr (masked3 _ _ _ rfl rfl rfl rfl), rfl⟩
  · simp (disch := omega) only [encode, field_or, field_place_same, field_place_other, BitVec.or_zero]
    congr 1
    · exact zero_or_eq rfl rfl
    · exact zero_or_eq rfl rfl
    · exact zero_or_eq rfl rfl

theorem EncodedRow.fcmpSunD (cd : FlagNum) (fj : RegNum) (fk : RegNum) : EncodedRow.Statement (.fcmpSunD cd fj fk) := by
  refine ⟨_, List.mem_of_getElem? (i := 128) rfl, fun _ => ?_, ?_⟩
  · exact Bool.and_eq_true_iff.mpr ⟨beq_iff_eq.mpr (masked3 _ _ _ rfl rfl rfl rfl), rfl⟩
  · simp (disch := omega) only [encode, field_or, field_place_same, field_place_other, BitVec.or_zero]
    congr 1
    · exact zero_or_eq rfl rfl
    · exact zero_or_eq rfl rfl
    · exact zero_or_eq rfl rfl

theorem EncodedRow.fcmpSeqD (cd : FlagNum) (fj : RegNum) (fk : RegNum) : EncodedRow.Statement (.fcmpSeqD cd fj fk) := by
  refine ⟨_, List.mem_of_getElem? (i := 129) rfl, fun _ => ?_, ?_⟩
  · exact Bool.and_eq_true_iff.mpr ⟨beq_iff_eq.mpr (masked3 _ _ _ rfl rfl rfl rfl), rfl⟩
  · simp (disch := omega) only [encode, field_or, field_place_same, field_place_other, BitVec.or_zero]
    congr 1
    · exact zero_or_eq rfl rfl
    · exact zero_or_eq rfl rfl
    · exact zero_or_eq rfl rfl

theorem EncodedRow.fcmpSueqD (cd : FlagNum) (fj : RegNum) (fk : RegNum) : EncodedRow.Statement (.fcmpSueqD cd fj fk) := by
  refine ⟨_, List.mem_of_getElem? (i := 130) rfl, fun _ => ?_, ?_⟩
  · exact Bool.and_eq_true_iff.mpr ⟨beq_iff_eq.mpr (masked3 _ _ _ rfl rfl rfl rfl), rfl⟩
  · simp (disch := omega) only [encode, field_or, field_place_same, field_place_other, BitVec.or_zero]
    congr 1
    · exact zero_or_eq rfl rfl
    · exact zero_or_eq rfl rfl
    · exact zero_or_eq rfl rfl

theorem EncodedRow.fcmpSltD (cd : FlagNum) (fj : RegNum) (fk : RegNum) : EncodedRow.Statement (.fcmpSltD cd fj fk) := by
  refine ⟨_, List.mem_of_getElem? (i := 131) rfl, fun _ => ?_, ?_⟩
  · exact Bool.and_eq_true_iff.mpr ⟨beq_iff_eq.mpr (masked3 _ _ _ rfl rfl rfl rfl), rfl⟩
  · simp (disch := omega) only [encode, field_or, field_place_same, field_place_other, BitVec.or_zero]
    congr 1
    · exact zero_or_eq rfl rfl
    · exact zero_or_eq rfl rfl
    · exact zero_or_eq rfl rfl

theorem EncodedRow.fcmpSultD (cd : FlagNum) (fj : RegNum) (fk : RegNum) : EncodedRow.Statement (.fcmpSultD cd fj fk) := by
  refine ⟨_, List.mem_of_getElem? (i := 132) rfl, fun _ => ?_, ?_⟩
  · exact Bool.and_eq_true_iff.mpr ⟨beq_iff_eq.mpr (masked3 _ _ _ rfl rfl rfl rfl), rfl⟩
  · simp (disch := omega) only [encode, field_or, field_place_same, field_place_other, BitVec.or_zero]
    congr 1
    · exact zero_or_eq rfl rfl
    · exact zero_or_eq rfl rfl
    · exact zero_or_eq rfl rfl

theorem EncodedRow.fcmpSleD (cd : FlagNum) (fj : RegNum) (fk : RegNum) : EncodedRow.Statement (.fcmpSleD cd fj fk) := by
  refine ⟨_, List.mem_of_getElem? (i := 133) rfl, fun _ => ?_, ?_⟩
  · exact Bool.and_eq_true_iff.mpr ⟨beq_iff_eq.mpr (masked3 _ _ _ rfl rfl rfl rfl), rfl⟩
  · simp (disch := omega) only [encode, field_or, field_place_same, field_place_other, BitVec.or_zero]
    congr 1
    · exact zero_or_eq rfl rfl
    · exact zero_or_eq rfl rfl
    · exact zero_or_eq rfl rfl

theorem EncodedRow.fcmpSuleD (cd : FlagNum) (fj : RegNum) (fk : RegNum) : EncodedRow.Statement (.fcmpSuleD cd fj fk) := by
  refine ⟨_, List.mem_of_getElem? (i := 134) rfl, fun _ => ?_, ?_⟩
  · exact Bool.and_eq_true_iff.mpr ⟨beq_iff_eq.mpr (masked3 _ _ _ rfl rfl rfl rfl), rfl⟩
  · simp (disch := omega) only [encode, field_or, field_place_same, field_place_other, BitVec.or_zero]
    congr 1
    · exact zero_or_eq rfl rfl
    · exact zero_or_eq rfl rfl
    · exact zero_or_eq rfl rfl

theorem EncodedRow.fcmpSneD (cd : FlagNum) (fj : RegNum) (fk : RegNum) : EncodedRow.Statement (.fcmpSneD cd fj fk) := by
  refine ⟨_, List.mem_of_getElem? (i := 135) rfl, fun _ => ?_, ?_⟩
  · exact Bool.and_eq_true_iff.mpr ⟨beq_iff_eq.mpr (masked3 _ _ _ rfl rfl rfl rfl), rfl⟩
  · simp (disch := omega) only [encode, field_or, field_place_same, field_place_other, BitVec.or_zero]
    congr 1
    · exact zero_or_eq rfl rfl
    · exact zero_or_eq rfl rfl
    · exact zero_or_eq rfl rfl

theorem EncodedRow.fcmpSorD (cd : FlagNum) (fj : RegNum) (fk : RegNum) : EncodedRow.Statement (.fcmpSorD cd fj fk) := by
  refine ⟨_, List.mem_of_getElem? (i := 136) rfl, fun _ => ?_, ?_⟩
  · exact Bool.and_eq_true_iff.mpr ⟨beq_iff_eq.mpr (masked3 _ _ _ rfl rfl rfl rfl), rfl⟩
  · simp (disch := omega) only [encode, field_or, field_place_same, field_place_other, BitVec.or_zero]
    congr 1
    · exact zero_or_eq rfl rfl
    · exact zero_or_eq rfl rfl
    · exact zero_or_eq rfl rfl

theorem EncodedRow.fcmpSuneD (cd : FlagNum) (fj : RegNum) (fk : RegNum) : EncodedRow.Statement (.fcmpSuneD cd fj fk) := by
  refine ⟨_, List.mem_of_getElem? (i := 137) rfl, fun _ => ?_, ?_⟩
  · exact Bool.and_eq_true_iff.mpr ⟨beq_iff_eq.mpr (masked3 _ _ _ rfl rfl rfl rfl), rfl⟩
  · simp (disch := omega) only [encode, field_or, field_place_same, field_place_other, BitVec.or_zero]
    congr 1
    · exact zero_or_eq rfl rfl
    · exact zero_or_eq rfl rfl
    · exact zero_or_eq rfl rfl

theorem EncodedRow.fcvtSD (fd : RegNum) (fj : RegNum) : EncodedRow.Statement (.fcvtSD fd fj) := by
  refine ⟨_, List.mem_of_getElem? (i := 138) rfl, fun _ => ?_, ?_⟩
  · exact Bool.and_eq_true_iff.mpr ⟨beq_iff_eq.mpr (masked2 _ _ rfl rfl rfl), rfl⟩
  · simp (disch := omega) only [encode, field_or, field_place_same, field_place_other, BitVec.or_zero]
    congr 1
    · exact zero_or_eq rfl rfl
    · exact zero_or_eq rfl rfl

theorem EncodedRow.fcvtDS (fd : RegNum) (fj : RegNum) : EncodedRow.Statement (.fcvtDS fd fj) := by
  refine ⟨_, List.mem_of_getElem? (i := 139) rfl, fun _ => ?_, ?_⟩
  · exact Bool.and_eq_true_iff.mpr ⟨beq_iff_eq.mpr (masked2 _ _ rfl rfl rfl), rfl⟩
  · simp (disch := omega) only [encode, field_or, field_place_same, field_place_other, BitVec.or_zero]
    congr 1
    · exact zero_or_eq rfl rfl
    · exact zero_or_eq rfl rfl

theorem EncodedRow.ffintSW (fd : RegNum) (fj : RegNum) : EncodedRow.Statement (.ffintSW fd fj) := by
  refine ⟨_, List.mem_of_getElem? (i := 140) rfl, fun _ => ?_, ?_⟩
  · exact Bool.and_eq_true_iff.mpr ⟨beq_iff_eq.mpr (masked2 _ _ rfl rfl rfl), rfl⟩
  · simp (disch := omega) only [encode, field_or, field_place_same, field_place_other, BitVec.or_zero]
    congr 1
    · exact zero_or_eq rfl rfl
    · exact zero_or_eq rfl rfl

theorem EncodedRow.ffintDW (fd : RegNum) (fj : RegNum) : EncodedRow.Statement (.ffintDW fd fj) := by
  refine ⟨_, List.mem_of_getElem? (i := 141) rfl, fun _ => ?_, ?_⟩
  · exact Bool.and_eq_true_iff.mpr ⟨beq_iff_eq.mpr (masked2 _ _ rfl rfl rfl), rfl⟩
  · simp (disch := omega) only [encode, field_or, field_place_same, field_place_other, BitVec.or_zero]
    congr 1
    · exact zero_or_eq rfl rfl
    · exact zero_or_eq rfl rfl

theorem EncodedRow.ftintWS (fd : RegNum) (fj : RegNum) : EncodedRow.Statement (.ftintWS fd fj) := by
  refine ⟨_, List.mem_of_getElem? (i := 142) rfl, fun _ => ?_, ?_⟩
  · exact Bool.and_eq_true_iff.mpr ⟨beq_iff_eq.mpr (masked2 _ _ rfl rfl rfl), rfl⟩
  · simp (disch := omega) only [encode, field_or, field_place_same, field_place_other, BitVec.or_zero]
    congr 1
    · exact zero_or_eq rfl rfl
    · exact zero_or_eq rfl rfl

theorem EncodedRow.ftintWD (fd : RegNum) (fj : RegNum) : EncodedRow.Statement (.ftintWD fd fj) := by
  refine ⟨_, List.mem_of_getElem? (i := 143) rfl, fun _ => ?_, ?_⟩
  · exact Bool.and_eq_true_iff.mpr ⟨beq_iff_eq.mpr (masked2 _ _ rfl rfl rfl), rfl⟩
  · simp (disch := omega) only [encode, field_or, field_place_same, field_place_other, BitVec.or_zero]
    congr 1
    · exact zero_or_eq rfl rfl
    · exact zero_or_eq rfl rfl

theorem EncodedRow.ftintrmWS (fd : RegNum) (fj : RegNum) : EncodedRow.Statement (.ftintrmWS fd fj) := by
  refine ⟨_, List.mem_of_getElem? (i := 144) rfl, fun _ => ?_, ?_⟩
  · exact Bool.and_eq_true_iff.mpr ⟨beq_iff_eq.mpr (masked2 _ _ rfl rfl rfl), rfl⟩
  · simp (disch := omega) only [encode, field_or, field_place_same, field_place_other, BitVec.or_zero]
    congr 1
    · exact zero_or_eq rfl rfl
    · exact zero_or_eq rfl rfl

theorem EncodedRow.ftintrmWD (fd : RegNum) (fj : RegNum) : EncodedRow.Statement (.ftintrmWD fd fj) := by
  refine ⟨_, List.mem_of_getElem? (i := 145) rfl, fun _ => ?_, ?_⟩
  · exact Bool.and_eq_true_iff.mpr ⟨beq_iff_eq.mpr (masked2 _ _ rfl rfl rfl), rfl⟩
  · simp (disch := omega) only [encode, field_or, field_place_same, field_place_other, BitVec.or_zero]
    congr 1
    · exact zero_or_eq rfl rfl
    · exact zero_or_eq rfl rfl

theorem EncodedRow.ftintrpWS (fd : RegNum) (fj : RegNum) : EncodedRow.Statement (.ftintrpWS fd fj) := by
  refine ⟨_, List.mem_of_getElem? (i := 146) rfl, fun _ => ?_, ?_⟩
  · exact Bool.and_eq_true_iff.mpr ⟨beq_iff_eq.mpr (masked2 _ _ rfl rfl rfl), rfl⟩
  · simp (disch := omega) only [encode, field_or, field_place_same, field_place_other, BitVec.or_zero]
    congr 1
    · exact zero_or_eq rfl rfl
    · exact zero_or_eq rfl rfl

theorem EncodedRow.ftintrpWD (fd : RegNum) (fj : RegNum) : EncodedRow.Statement (.ftintrpWD fd fj) := by
  refine ⟨_, List.mem_of_getElem? (i := 147) rfl, fun _ => ?_, ?_⟩
  · exact Bool.and_eq_true_iff.mpr ⟨beq_iff_eq.mpr (masked2 _ _ rfl rfl rfl), rfl⟩
  · simp (disch := omega) only [encode, field_or, field_place_same, field_place_other, BitVec.or_zero]
    congr 1
    · exact zero_or_eq rfl rfl
    · exact zero_or_eq rfl rfl

theorem EncodedRow.ftintrzWS (fd : RegNum) (fj : RegNum) : EncodedRow.Statement (.ftintrzWS fd fj) := by
  refine ⟨_, List.mem_of_getElem? (i := 148) rfl, fun _ => ?_, ?_⟩
  · exact Bool.and_eq_true_iff.mpr ⟨beq_iff_eq.mpr (masked2 _ _ rfl rfl rfl), rfl⟩
  · simp (disch := omega) only [encode, field_or, field_place_same, field_place_other, BitVec.or_zero]
    congr 1
    · exact zero_or_eq rfl rfl
    · exact zero_or_eq rfl rfl

theorem EncodedRow.ftintrzWD (fd : RegNum) (fj : RegNum) : EncodedRow.Statement (.ftintrzWD fd fj) := by
  refine ⟨_, List.mem_of_getElem? (i := 149) rfl, fun _ => ?_, ?_⟩
  · exact Bool.and_eq_true_iff.mpr ⟨beq_iff_eq.mpr (masked2 _ _ rfl rfl rfl), rfl⟩
  · simp (disch := omega) only [encode, field_or, field_place_same, field_place_other, BitVec.or_zero]
    congr 1
    · exact zero_or_eq rfl rfl
    · exact zero_or_eq rfl rfl

theorem EncodedRow.ftintrneWS (fd : RegNum) (fj : RegNum) : EncodedRow.Statement (.ftintrneWS fd fj) := by
  refine ⟨_, List.mem_of_getElem? (i := 150) rfl, fun _ => ?_, ?_⟩
  · exact Bool.and_eq_true_iff.mpr ⟨beq_iff_eq.mpr (masked2 _ _ rfl rfl rfl), rfl⟩
  · simp (disch := omega) only [encode, field_or, field_place_same, field_place_other, BitVec.or_zero]
    congr 1
    · exact zero_or_eq rfl rfl
    · exact zero_or_eq rfl rfl

theorem EncodedRow.ftintrneWD (fd : RegNum) (fj : RegNum) : EncodedRow.Statement (.ftintrneWD fd fj) := by
  refine ⟨_, List.mem_of_getElem? (i := 151) rfl, fun _ => ?_, ?_⟩
  · exact Bool.and_eq_true_iff.mpr ⟨beq_iff_eq.mpr (masked2 _ _ rfl rfl rfl), rfl⟩
  · simp (disch := omega) only [encode, field_or, field_place_same, field_place_other, BitVec.or_zero]
    congr 1
    · exact zero_or_eq rfl rfl
    · exact zero_or_eq rfl rfl

theorem EncodedRow.fmovS (fd : RegNum) (fj : RegNum) : EncodedRow.Statement (.fmovS fd fj) := by
  refine ⟨_, List.mem_of_getElem? (i := 152) rfl, fun _ => ?_, ?_⟩
  · exact Bool.and_eq_true_iff.mpr ⟨beq_iff_eq.mpr (masked2 _ _ rfl rfl rfl), rfl⟩
  · simp (disch := omega) only [encode, field_or, field_place_same, field_place_other, BitVec.or_zero]
    congr 1
    · exact zero_or_eq rfl rfl
    · exact zero_or_eq rfl rfl

theorem EncodedRow.fmovD (fd : RegNum) (fj : RegNum) : EncodedRow.Statement (.fmovD fd fj) := by
  refine ⟨_, List.mem_of_getElem? (i := 153) rfl, fun _ => ?_, ?_⟩
  · exact Bool.and_eq_true_iff.mpr ⟨beq_iff_eq.mpr (masked2 _ _ rfl rfl rfl), rfl⟩
  · simp (disch := omega) only [encode, field_or, field_place_same, field_place_other, BitVec.or_zero]
    congr 1
    · exact zero_or_eq rfl rfl
    · exact zero_or_eq rfl rfl

theorem EncodedRow.fsel (fd : RegNum) (fj : RegNum) (fk : RegNum) (ca : FlagNum) : EncodedRow.Statement (.fsel fd fj fk ca) := by
  refine ⟨_, List.mem_of_getElem? (i := 154) rfl, fun _ => ?_, ?_⟩
  · exact Bool.and_eq_true_iff.mpr ⟨beq_iff_eq.mpr (masked4 _ _ _ _ rfl rfl rfl rfl rfl), rfl⟩
  · simp (disch := omega) only [encode, field_or, field_place_same, field_place_other, BitVec.or_zero]
    congr 1
    · exact zero_or_eq rfl rfl
    · exact zero_or_eq rfl rfl
    · exact zero_or_eq rfl rfl
    · exact zero_or_eq rfl rfl

theorem EncodedRow.movgr2frW (fd : RegNum) (rj : RegNum) : EncodedRow.Statement (.movgr2frW fd rj) := by
  refine ⟨_, List.mem_of_getElem? (i := 155) rfl, fun _ => ?_, ?_⟩
  · exact Bool.and_eq_true_iff.mpr ⟨beq_iff_eq.mpr (masked2 _ _ rfl rfl rfl), rfl⟩
  · simp (disch := omega) only [encode, field_or, field_place_same, field_place_other, BitVec.or_zero]
    congr 1
    · exact zero_or_eq rfl rfl
    · exact zero_or_eq rfl rfl

theorem EncodedRow.movgr2frhW (fd : RegNum) (rj : RegNum) : EncodedRow.Statement (.movgr2frhW fd rj) := by
  refine ⟨_, List.mem_of_getElem? (i := 156) rfl, fun _ => ?_, ?_⟩
  · exact Bool.and_eq_true_iff.mpr ⟨beq_iff_eq.mpr (masked2 _ _ rfl rfl rfl), rfl⟩
  · simp (disch := omega) only [encode, field_or, field_place_same, field_place_other, BitVec.or_zero]
    congr 1
    · exact zero_or_eq rfl rfl
    · exact zero_or_eq rfl rfl

theorem EncodedRow.movfr2grS (rd : RegNum) (fj : RegNum) : EncodedRow.Statement (.movfr2grS rd fj) := by
  refine ⟨_, List.mem_of_getElem? (i := 157) rfl, fun _ => ?_, ?_⟩
  · exact Bool.and_eq_true_iff.mpr ⟨beq_iff_eq.mpr (masked2 _ _ rfl rfl rfl), rfl⟩
  · simp (disch := omega) only [encode, field_or, field_place_same, field_place_other, BitVec.or_zero]
    congr 1
    · exact zero_or_eq rfl rfl
    · exact zero_or_eq rfl rfl

theorem EncodedRow.movfrh2grS (rd : RegNum) (fj : RegNum) : EncodedRow.Statement (.movfrh2grS rd fj) := by
  refine ⟨_, List.mem_of_getElem? (i := 158) rfl, fun _ => ?_, ?_⟩
  · exact Bool.and_eq_true_iff.mpr ⟨beq_iff_eq.mpr (masked2 _ _ rfl rfl rfl), rfl⟩
  · simp (disch := omega) only [encode, field_or, field_place_same, field_place_other, BitVec.or_zero]
    congr 1
    · exact zero_or_eq rfl rfl
    · exact zero_or_eq rfl rfl

theorem EncodedRow.movgr2fcsr (fcsr : BitVec 5) (rj : RegNum) : EncodedRow.Statement (.movgr2fcsr fcsr rj) := by
  refine ⟨_, List.mem_of_getElem? (i := 159) rfl, fun _ => ?_, ?_⟩
  · exact Bool.and_eq_true_iff.mpr ⟨beq_iff_eq.mpr (masked2 _ _ rfl rfl rfl), rfl⟩
  · simp (disch := omega) only [encode, field_or, field_place_same, field_place_other, BitVec.or_zero]
    congr 1
    · exact zero_or_eq rfl rfl
    · exact zero_or_eq rfl rfl

theorem EncodedRow.movfcsr2gr (rd : RegNum) (fcsr : BitVec 5) : EncodedRow.Statement (.movfcsr2gr rd fcsr) := by
  refine ⟨_, List.mem_of_getElem? (i := 160) rfl, fun _ => ?_, ?_⟩
  · exact Bool.and_eq_true_iff.mpr ⟨beq_iff_eq.mpr (masked2 _ _ rfl rfl rfl), rfl⟩
  · simp (disch := omega) only [encode, field_or, field_place_same, field_place_other, BitVec.or_zero]
    congr 1
    · exact zero_or_eq rfl rfl
    · exact zero_or_eq rfl rfl

theorem EncodedRow.movfr2cf (cd : FlagNum) (fj : RegNum) : EncodedRow.Statement (.movfr2cf cd fj) := by
  refine ⟨_, List.mem_of_getElem? (i := 161) rfl, fun _ => ?_, ?_⟩
  · exact Bool.and_eq_true_iff.mpr ⟨beq_iff_eq.mpr (masked2 _ _ rfl rfl rfl), rfl⟩
  · simp (disch := omega) only [encode, field_or, field_place_same, field_place_other, BitVec.or_zero]
    congr 1
    · exact zero_or_eq rfl rfl
    · exact zero_or_eq rfl rfl

theorem EncodedRow.movcf2fr (fd : RegNum) (cj : FlagNum) : EncodedRow.Statement (.movcf2fr fd cj) := by
  refine ⟨_, List.mem_of_getElem? (i := 162) rfl, fun _ => ?_, ?_⟩
  · exact Bool.and_eq_true_iff.mpr ⟨beq_iff_eq.mpr (masked2 _ _ rfl rfl rfl), rfl⟩
  · simp (disch := omega) only [encode, field_or, field_place_same, field_place_other, BitVec.or_zero]
    congr 1
    · exact zero_or_eq rfl rfl
    · exact zero_or_eq rfl rfl

theorem EncodedRow.movgr2cf (cd : FlagNum) (rj : RegNum) : EncodedRow.Statement (.movgr2cf cd rj) := by
  refine ⟨_, List.mem_of_getElem? (i := 163) rfl, fun _ => ?_, ?_⟩
  · exact Bool.and_eq_true_iff.mpr ⟨beq_iff_eq.mpr (masked2 _ _ rfl rfl rfl), rfl⟩
  · simp (disch := omega) only [encode, field_or, field_place_same, field_place_other, BitVec.or_zero]
    congr 1
    · exact zero_or_eq rfl rfl
    · exact zero_or_eq rfl rfl

theorem EncodedRow.movcf2gr (rd : RegNum) (cj : FlagNum) : EncodedRow.Statement (.movcf2gr rd cj) := by
  refine ⟨_, List.mem_of_getElem? (i := 164) rfl, fun _ => ?_, ?_⟩
  · exact Bool.and_eq_true_iff.mpr ⟨beq_iff_eq.mpr (masked2 _ _ rfl rfl rfl), rfl⟩
  · simp (disch := omega) only [encode, field_or, field_place_same, field_place_other, BitVec.or_zero]
    congr 1
    · exact zero_or_eq rfl rfl
    · exact zero_or_eq rfl rfl

theorem EncodedRow.bceqz (cj : FlagNum) (offs21 : BitVec 21) : EncodedRow.Statement (.bceqz cj offs21) := by
  refine ⟨_, List.mem_of_getElem? (i := 165) rfl, fun _ => ?_, ?_⟩
  · exact Bool.and_eq_true_iff.mpr ⟨beq_iff_eq.mpr (masked3 _ _ _ rfl rfl rfl rfl), rfl⟩
  · simp (disch := omega) only [encode, field_or, field_place_same, field_place_other, BitVec.or_zero]
    congr 1
    · exact zero_or_eq rfl rfl
    · exact join21 _ rfl rfl

theorem EncodedRow.bcnez (cj : FlagNum) (offs21 : BitVec 21) : EncodedRow.Statement (.bcnez cj offs21) := by
  refine ⟨_, List.mem_of_getElem? (i := 166) rfl, fun _ => ?_, ?_⟩
  · exact Bool.and_eq_true_iff.mpr ⟨beq_iff_eq.mpr (masked3 _ _ _ rfl rfl rfl rfl), rfl⟩
  · simp (disch := omega) only [encode, field_or, field_place_same, field_place_other, BitVec.or_zero]
    congr 1
    · exact zero_or_eq rfl rfl
    · exact join21 _ rfl rfl

theorem EncodedRow.fldS (fd : RegNum) (rj : RegNum) (si12 : BitVec 12) : EncodedRow.Statement (.fldS fd rj si12) := by
  refine ⟨_, List.mem_of_getElem? (i := 167) rfl, fun _ => ?_, ?_⟩
  · exact Bool.and_eq_true_iff.mpr ⟨beq_iff_eq.mpr (masked3 _ _ _ rfl rfl rfl rfl), rfl⟩
  · simp (disch := omega) only [encode, field_or, field_place_same, field_place_other, BitVec.or_zero]
    congr 1
    · exact zero_or_eq rfl rfl
    · exact zero_or_eq rfl rfl
    · exact zero_or_eq rfl rfl

theorem EncodedRow.fldD (fd : RegNum) (rj : RegNum) (si12 : BitVec 12) : EncodedRow.Statement (.fldD fd rj si12) := by
  refine ⟨_, List.mem_of_getElem? (i := 168) rfl, fun _ => ?_, ?_⟩
  · exact Bool.and_eq_true_iff.mpr ⟨beq_iff_eq.mpr (masked3 _ _ _ rfl rfl rfl rfl), rfl⟩
  · simp (disch := omega) only [encode, field_or, field_place_same, field_place_other, BitVec.or_zero]
    congr 1
    · exact zero_or_eq rfl rfl
    · exact zero_or_eq rfl rfl
    · exact zero_or_eq rfl rfl

theorem EncodedRow.fstS (fd : RegNum) (rj : RegNum) (si12 : BitVec 12) : EncodedRow.Statement (.fstS fd rj si12) := by
  refine ⟨_, List.mem_of_getElem? (i := 169) rfl, fun _ => ?_, ?_⟩
  · exact Bool.and_eq_true_iff.mpr ⟨beq_iff_eq.mpr (masked3 _ _ _ rfl rfl rfl rfl), rfl⟩
  · simp (disch := omega) only [encode, field_or, field_place_same, field_place_other, BitVec.or_zero]
    congr 1
    · exact zero_or_eq rfl rfl
    · exact zero_or_eq rfl rfl
    · exact zero_or_eq rfl rfl

theorem EncodedRow.fstD (fd : RegNum) (rj : RegNum) (si12 : BitVec 12) : EncodedRow.Statement (.fstD fd rj si12) := by
  refine ⟨_, List.mem_of_getElem? (i := 170) rfl, fun _ => ?_, ?_⟩
  · exact Bool.and_eq_true_iff.mpr ⟨beq_iff_eq.mpr (masked3 _ _ _ rfl rfl rfl rfl), rfl⟩
  · simp (disch := omega) only [encode, field_or, field_place_same, field_place_other, BitVec.or_zero]
    congr 1
    · exact zero_or_eq rfl rfl
    · exact zero_or_eq rfl rfl
    · exact zero_or_eq rfl rfl

theorem EncodedRow.csrrd (rd : RegNum) (csr : BitVec 14) : EncodedRow.Statement (.csrrd rd csr) := by
  refine ⟨_, List.mem_of_getElem? (i := 171) rfl, fun _ => ?_, ?_⟩
  · exact Bool.and_eq_true_iff.mpr ⟨beq_iff_eq.mpr (masked2 _ _ rfl rfl rfl), rfl⟩
  · simp (disch := omega) only [encode, field_or, field_place_same, field_place_other, BitVec.or_zero]
    congr 1
    · exact zero_or_eq rfl rfl
    · exact zero_or_eq rfl rfl

theorem EncodedRow.csrwr (rd : RegNum) (csr : BitVec 14) : EncodedRow.Statement (.csrwr rd csr) := by
  refine ⟨_, List.mem_of_getElem? (i := 172) rfl, fun _ => ?_, ?_⟩
  · exact Bool.and_eq_true_iff.mpr ⟨beq_iff_eq.mpr (masked2 _ _ rfl rfl rfl), rfl⟩
  · simp (disch := omega) only [encode, field_or, field_place_same, field_place_other, BitVec.or_zero]
    congr 1
    · exact zero_or_eq rfl rfl
    · exact zero_or_eq rfl rfl

theorem EncodedRow.csrxchg (rd : RegNum) (rj : RegNum) (csr : BitVec 14) : EncodedRow.Statement (.csrxchg rd rj csr) := by
  refine ⟨_, List.mem_of_getElem? (i := 173) rfl, fun h => ?_, ?_⟩
  · refine Bool.and_eq_true_iff.mpr ⟨beq_iff_eq.mpr (masked3 _ _ _ rfl rfl rfl rfl), ?_⟩
    simp (disch := omega) only [encode, field_or, field_place_same, field_place_other, BitVec.or_zero]
    have hc : field 0x04000000#32 5 5 = 0#5 := rfl
    simp only [hc, BitVec.zero_or]
    exact h
  · simp (disch := omega) only [encode, field_or, field_place_same, field_place_other, BitVec.or_zero]
    congr 1
    · exact zero_or_eq rfl rfl
    · exact zero_or_eq rfl rfl
    · exact zero_or_eq rfl rfl

theorem EncodedRow.cacop (code : BitVec 5) (rj : RegNum) (si12 : BitVec 12) : EncodedRow.Statement (.cacop code rj si12) := by
  refine ⟨_, List.mem_of_getElem? (i := 174) rfl, fun _ => ?_, ?_⟩
  · exact Bool.and_eq_true_iff.mpr ⟨beq_iff_eq.mpr (masked3 _ _ _ rfl rfl rfl rfl), rfl⟩
  · simp (disch := omega) only [encode, field_or, field_place_same, field_place_other, BitVec.or_zero]
    congr 1
    · exact zero_or_eq rfl rfl
    · exact zero_or_eq rfl rfl
    · exact zero_or_eq rfl rfl

theorem EncodedRow.tlbsrch : EncodedRow.Statement (.tlbsrch) := by
  exact ⟨_, List.mem_of_getElem? (i := 175) rfl, fun _ => by decide, rfl⟩

theorem EncodedRow.tlbrd : EncodedRow.Statement (.tlbrd) := by
  exact ⟨_, List.mem_of_getElem? (i := 176) rfl, fun _ => by decide, rfl⟩

theorem EncodedRow.tlbwr : EncodedRow.Statement (.tlbwr) := by
  exact ⟨_, List.mem_of_getElem? (i := 177) rfl, fun _ => by decide, rfl⟩

theorem EncodedRow.tlbfill : EncodedRow.Statement (.tlbfill) := by
  exact ⟨_, List.mem_of_getElem? (i := 178) rfl, fun _ => by decide, rfl⟩

theorem EncodedRow.invtlb (op : BitVec 5) (rj : RegNum) (rk : RegNum) : EncodedRow.Statement (.invtlb op rj rk) := by
  refine ⟨_, List.mem_of_getElem? (i := 179) rfl, fun _ => ?_, ?_⟩
  · exact Bool.and_eq_true_iff.mpr ⟨beq_iff_eq.mpr (masked3 _ _ _ rfl rfl rfl rfl), rfl⟩
  · simp (disch := omega) only [encode, field_or, field_place_same, field_place_other, BitVec.or_zero]
    congr 1
    · exact zero_or_eq rfl rfl
    · exact zero_or_eq rfl rfl
    · exact zero_or_eq rfl rfl

theorem EncodedRow.ertn : EncodedRow.Statement (.ertn) := by
  exact ⟨_, List.mem_of_getElem? (i := 180) rfl, fun _ => by decide, rfl⟩

theorem EncodedRow.idle (level : BitVec 15) : EncodedRow.Statement (.idle level) := by
  refine ⟨_, List.mem_of_getElem? (i := 181) rfl, fun _ => ?_, ?_⟩
  · exact Bool.and_eq_true_iff.mpr ⟨beq_iff_eq.mpr (masked1 _ rfl rfl), rfl⟩
  · simp (disch := omega) only [encode, field_or, field_place_same]
    congr 1
    · exact zero_or_eq rfl rfl

end Sys2Proof.Laws
end

