-- ==== Sys2Proof/Laws/Tlb.lean ====
section
/-! SUPPORT. The laws of the TLB: when an entry matches, which entries a lookup finds, the physical address of a page, and
the page fields of a TLBELO register. -/

namespace Sys2Proof.Machine

/-! ### Matching (R95) -/

theorem requiredPageSize_iff (ps : BitVec 6) : requiredPageSize ps = true ↔ ps = 12#6 ∨ ps = 21#6 := by
  simp [requiredPageSize]

/-- For the two required page sizes an entry covers an address when they agree above the page pair. -/
theorem TlbEntry.matchesVa_iff (e : TlbEntry) (v : BitVec 19) (h : requiredPageSize e.ps = true) :
    e.matchesVa v = true ↔ e.vppn.toNat / 2 ^ (e.ps.toNat - 12) = v.toNat / 2 ^ (e.ps.toNat - 12) := by
  simp only [TlbEntry.matchesVa, h, if_true, beq_iff_eq, ← BitVec.toNat_inj, BitVec.toNat_ushiftRight,
    Nat.shiftRight_eq_div_pow]

theorem TlbEntry.hit_iff (e : TlbEntry) (asid : BitVec 10) (v : BitVec 19) (h : requiredPageSize e.ps = true) :
    e.hit asid v = true ↔ e.e = true ∧ (e.g = true ∨ e.asid = asid) ∧
      e.vppn.toNat / 2 ^ (e.ps.toNat - 12) = v.toNat / 2 ^ (e.ps.toNat - 12) := by
  simp only [TlbEntry.hit, Bool.and_eq_true, Bool.or_eq_true, beq_iff_eq, e.matchesVa_iff v h, and_assoc]

/-! ### Lookups -/

theorem mem_tlbHits (s : State) (v : BitVec 19) (i : Fin Config.tlbEntries) :
    i ∈ s.tlbHits v ↔ (s.tlb.get i).hit s.csr.asid v = true := by
  simp [State.tlbHits]

theorem tlbHits_eq_nil {s : State} {v : BitVec 19} (h : ∀ i, (s.tlb.get i).hit s.csr.asid v = false) :
    s.tlbHits v = [] :=
  List.eq_nil_iff_forall_not_mem.mpr fun i hi => by
    rw [mem_tlbHits, h i] at hi; exact Bool.false_ne_true hi

/-- A lookup that exactly one entry matches finds it. -/
theorem tlbHits_eq_singleton {s : State} {v : BitVec 19} {i : Fin Config.tlbEntries} (h : (s.tlb.get i).hit s.csr.asid v = true)
    (hu : ∀ j, (s.tlb.get j).hit s.csr.asid v = true → j = i) : s.tlbHits v = [i] := by
  have hn : (s.tlbHits v).Nodup := List.Nodup.filter _ (List.nodup_finRange Config.tlbEntries)
  have hm : i ∈ s.tlbHits v := (mem_tlbHits s v i).mpr h
  have ha : ∀ j ∈ s.tlbHits v, j = i := fun j hj => hu j ((mem_tlbHits s v j).mp hj)
  generalize s.tlbHits v = l at *
  match l, hm with
  | [j], hm => rw [List.mem_singleton.mp hm]
  | j :: k :: l, _ =>
    have hj := ha j (by simp)
    have hk := ha k (by simp)
    rw [hj, hk] at hn
    simp at hn

/-! ### The physical address of a page (R95) -/

/-- The address of a page of a required size, at the address length of this implementation. -/
theorem pageAddress_required (ps : BitVec 6) (ppn : BitVec 20) (va : Word) (h : requiredPageSize ps = true) :
    pageAddress ps ppn va = (((ppn ++ 0#12 : Word) &&& ~~~ones 0 ps.toNat) ||| (va &&& ones 0 ps.toNat) : Word) := by
  have e : ∀ x : Word, x.setWidth Config.palen = x := fun x => BitVec.setWidth_eq x
  exact (if_pos h).trans (by
    show ((ppn ++ 0#12 : Word).setWidth Config.palen &&& ~~~((ones 0 ps.toNat).setWidth Config.palen) |||
      (va &&& ones 0 ps.toNat).setWidth Config.palen : Word) = _
    rw [e, e, e])

theorem getLsbD_pageAddress (ps : BitVec 6) (ppn : BitVec 20) (va : Word) (h : requiredPageSize ps = true) (i : Nat) :
    BitVec.getLsbD (pageAddress ps ppn va : Word) i =
      if i < 32 ∧ i < ps.toNat then va.getLsbD i else decide (12 ≤ i) && ppn.getLsbD (i - 12) := by
  have hp : ps.toNat ≤ 32 := by
    rcases (requiredPageSize_iff ps).mp h with h | h <;> subst h <;> decide
  rw [pageAddress_required ps ppn va h]
  simp only [BitVec.getLsbD_or, BitVec.getLsbD_and, BitVec.getLsbD_not, ones_getLsbD]
  rw [BitVec.getLsbD_append]
  by_cases h1 : i < 32
  · by_cases h2 : i < ps.toNat
    · simp [h1, h2]
    · by_cases h3 : i < 12
      · simp [h1, h2, h3]
      · have h4 : 12 ≤ i := by omega
        simp [h1, h2, h3, h4]
  · have : ppn.getLsbD (i - 12) = false := BitVec.getLsbD_of_ge _ _ (by omega)
    have h3 : ¬ i < 12 := by omega
    simp [h1, h3, this]

/-- As numbers: the page frame above the offset in the page. -/
theorem pageAddress_toNat (ps : BitVec 6) (ppn : BitVec 20) (va : Word) (h : requiredPageSize ps = true) :
    (pageAddress ps ppn va : Word).toNat = ppn.toNat / 2 ^ (ps.toNat - 12) * 2 ^ ps.toNat + va.toNat % 2 ^ ps.toNat := by
  have key : ∀ {n m : Nat} (a : BitVec n) (b : BitVec m), (a ++ b).toNat = a.toNat * 2 ^ m + b.toNat := fun a b => by
    rw [BitVec.toNat_append, Nat.shiftLeft_eq, Nat.mul_comm, Nat.two_pow_add_eq_or_of_lt b.isLt]
  rcases (requiredPageSize_iff ps).mp h with hp | hp <;> subst hp
  · have e : (pageAddress 12#6 ppn va : Word) = ppn ++ va.extractLsb' 0 12 := by
      apply BitVec.eq_of_getLsbD_eq
      intro i hi
      rw [getLsbD_pageAddress _ _ _ h, BitVec.getLsbD_append, BitVec.getLsbD_extractLsb']
      by_cases h2 : i < 12
      · simp [h2, hi]
      · simp [h2, Nat.le_of_not_lt h2]
    rw [e, key]
    simp
  · have e : (pageAddress 21#6 ppn va : Word) = ppn.extractLsb' 9 11 ++ va.extractLsb' 0 21 := by
      apply BitVec.eq_of_getLsbD_eq
      intro i hi
      rw [getLsbD_pageAddress _ _ _ h, BitVec.getLsbD_append, BitVec.getLsbD_extractLsb', BitVec.getLsbD_extractLsb']
      by_cases h2 : i < 21
      · simp [h2, hi]
      · have h3 : i - 21 < 11 := by
          have hi' : i < 32 := hi
          omega
        have h4 : 12 ≤ i := by omega
        have h5 : 9 + (i - 21) = i - 12 := by omega
        simp [h2, h3, h4, h5]
    rw [e, key]
    have := ppn.isLt
    simp [Nat.shiftRight_eq_div_pow]
    omega

/-! ### Every translation keeps the address in a page of 2^12 bytes (R90 to R95, log 38) -/

/-- `pa` and `va` agree in bits 11:0. -/
theorem mod_eq_of_low_bits {pa : PAddr} {va : Word} (h : ∀ i, i < 12 → BitVec.getLsbD (pa : Word) i = va.getLsbD i) :
    pa.toNat % 2 ^ 12 = va.toNat % 2 ^ 12 := by
  apply Nat.eq_of_testBit_eq
  intro i
  rw [Nat.testBit_mod_two_pow, Nat.testBit_mod_two_pow]
  by_cases hi : i < 12
  · exact congrArg (decide (i < 12) && ·) (h i hi)
  · simp [hi]

/-- The low bits of an address are those of the virtual one, the others are kept. -/
theorem getLsbD_withOffset (pa : PAddr) (va : Word) (n i : Nat) (h : i < 32) :
    BitVec.getLsbD (withOffset pa va n : Word) i = if i < n then va.getLsbD i else BitVec.getLsbD (pa : Word) i := by
  have e : ∀ x : Word, x.setWidth Config.palen = x := fun x => BitVec.setWidth_eq x
  show BitVec.getLsbD ((pa : Word) &&& ~~~((ones 0 n).setWidth Config.palen : Word) |||
    ((va &&& ones 0 n).setWidth Config.palen : Word)) i = _
  rw [e, e]
  simp only [BitVec.getLsbD_or, BitVec.getLsbD_and, BitVec.getLsbD_not, ones_getLsbD]
  by_cases hi : i < n <;> simp [h, hi]

theorem pageAddress_mod (ps : BitVec 6) (ppn : BitVec 20) (va : Word) :
    (pageAddress ps ppn va).toNat % 2 ^ 12 = va.toNat % 2 ^ 12 := by
  apply mod_eq_of_low_bits
  intro i hi
  unfold pageAddress
  split
  · next h =>
    have hp : 12 ≤ ps.toNat := by
      rcases (requiredPageSize_iff ps).mp h with h | h <;> subst h <;> decide
    rw [getLsbD_withOffset _ _ _ _ (by omega), if_pos (by omega)]
  · rw [getLsbD_withOffset _ _ _ _ (by omega), if_pos hi]

theorem windowAddress_mod (dmw va : Word) : (windowAddress dmw va).toNat % 2 ^ 12 = va.toNat % 2 ^ 12 := by
  apply mod_eq_of_low_bits
  intro i hi
  have e : ∀ x : Word, x.setWidth Config.palen = x := fun x => BitVec.setWidth_eq x
  show BitVec.getLsbD ((field dmw 25 3 ++ field va 0 29 : Word).setWidth Config.palen : Word) i = _
  rw [e, BitVec.getLsbD_append, field_getLsbD]
  have h : i < 29 := by omega
  simp [h]

/-- Every translation keeps bits 11:0 of the address, whatever the mode and the page size. -/
theorem translate_mod {s : State} {kind : Access} {va : Word} {pa : PAddr} {mat : BitVec 2}
    (h : s.translate kind va = .mapped pa mat) : pa.toNat % 2 ^ 12 = va.toNat % 2 ^ 12 := by
  simp only [State.translate, State.translateMapped, State.translateTlb, TlbEntry.translate] at h
  repeat' split at h
  all_goals first
    | cases h; done
    | (injection h with h; subst h
       first
        | exact congrArg (fun x : Word => x.toNat % 2 ^ 12) (BitVec.setWidth_eq va)
        | exact windowAddress_mod _ _
        | exact pageAddress_mod _ _ _)

/-- An aligned access of at most a doubleword is aligned at its physical address and ends inside the address space. -/
theorem translate_inside {s : State} {kind : Access} {va : Word} {pa : PAddr} {mat : BitVec 2} {n : Nat}
    (h : s.translate kind va = .mapped pa mat) (hn : n ∈ [1, 2, 4, 8]) (ha : va.toNat % n = 0) :
    pa.toNat % n = 0 ∧ pa.toNat + n ≤ 2 ^ Config.palen := by
  have hm := translate_mod h
  have hl : pa.toNat < 4294967296 := pa.isLt
  show pa.toNat % n = 0 ∧ pa.toNat + n ≤ 4294967296
  simp only [List.mem_cons, List.not_mem_nil, or_false] at hn
  rcases hn with rfl | rfl | rfl | rfl <;> omega

/-! ### TLBELO registers (R70) -/

theorem getLsbD_tlbeloOfPage (p : TlbPage) (g : Bool) (i : Nat) (h : i < 32) :
    (tlbeloOfPage p g).getLsbD i =
      if i = 0 then p.v else if i = 1 then p.d else if i < 4 then p.plv.getLsbD (i - 2)
      else if i < 6 then p.mat.getLsbD (i - 4) else if i = 6 then g else if i = 7 then false
      else if i < 28 then p.ppn.getLsbD (i - 8) else false := by
  simp only [tlbeloOfPage, BitVec.getLsbD_or, place_getLsbD, BitVec.getLsbD_ofBool]
  have hp : ∀ k, 20 ≤ k → p.ppn.getLsbD k = false := fun k hk => BitVec.getLsbD_of_ge _ _ hk
  interval_cases i <;> simp [hp]

end Sys2Proof.Machine
end

