-- ==== Sys2Proof/Tests/Slice0.lean ====
section
/-! SUPPORT. The model's own tests: terms the well-formedness check refuses, the decoding of one word of every row written
out from `spec/30_encoding.md` R147, single steps with expected results from `spec/95_test_vectors.md` and
`spec/96_test_vectors_fp.md`, and for every statement with hypotheses a state that meets them. -/

namespace Sys2Proof.Tests

open Sys2Proof.Machine

/-! ### Well-formedness (R143, R300 (a)) -/

theorem test_rdcntid_of_r0_is_refused : (Instr.rdcntid 0#5).wellFormed = false := by decide
theorem test_csrxchg_with_rj_0_is_refused : (Instr.csrxchg 4#5 0#5 0#14).wellFormed = false := by decide
theorem test_csrxchg_with_rj_1_is_refused : (Instr.csrxchg 4#5 1#5 0#14).wellFormed = false := by decide
theorem test_csrxchg_with_rj_2_is_admitted : (Instr.csrxchg 4#5 2#5 0#14).wellFormed = true := by decide
theorem test_fp_needs_the_unit : (Instr.faddS 0#5 1#5 2#5).availableIn false 64 = false := by decide
theorem test_fp_double_needs_64_bits :
    (Instr.faddD 0#5 1#5 2#5).availableIn true 32 = false ∧ (Instr.faddS 0#5 1#5 2#5).availableIn true 32 = true := by
  decide

/-! ### Decoding: one word of every row, its operand fields filled with distinct bits -/

/-- Every word decodes to its instruction and encodes back. -/
def decodesTo (l : List (Word × Instr)) : Bool :=
  l.all fun p => decide (decodeWord p.1 = .ok p.2) && decide (encode p.2 = p.1)

theorem test_decode_int_arith : decodesTo [
    (0b000000_0000_01_00000_10101_01001_00110#32, .addW 6 9 21),
    (0b000000_0000_01_00010_10101_01001_00110#32, .subW 6 9 21),
    (0b000000_1010_100110100101_01001_00110#32, .addiW 6 9 2469),
    (0b000101_0_10100101110000110001_00110#32, .lu12iW 6 678961),
    (0b000000_0000_01_00100_10101_01001_00110#32, .slt 6 9 21),
    (0b000000_0000_01_00101_10101_01001_00110#32, .sltu 6 9 21),
    (0b000000_1000_100110100101_01001_00110#32, .slti 6 9 2469),
    (0b000000_1001_100110100101_01001_00110#32, .sltui 6 9 2469),
    (0b000111_0_10100101110000110001_00110#32, .pcaddu12i 6 678961),
    (0b000000_0000_01_11000_10101_01001_00110#32, .mulW 6 9 21),
    (0b000000_0000_01_11001_10101_01001_00110#32, .mulhW 6 9 21),
    (0b000000_0000_01_11010_10101_01001_00110#32, .mulhWu 6 9 21),
    (0b000000_0000_10_00000_10101_01001_00110#32, .divW 6 9 21),
    (0b000000_0000_10_00010_10101_01001_00110#32, .divWu 6 9 21),
    (0b000000_0000_10_00001_10101_01001_00110#32, .modW 6 9 21),
    (0b000000_0000_10_00011_10101_01001_00110#32, .modWu 6 9 21)] = true := by decide

theorem test_decode_logic : decodesTo [
    (0b000000_0000_01_01001_10101_01001_00110#32, .and 6 9 21),
    (0b000000_0000_01_01010_10101_01001_00110#32, .or 6 9 21),
    (0b000000_0000_01_01000_10101_01001_00110#32, .nor 6 9 21),
    (0b000000_0000_01_01011_10101_01001_00110#32, .xor 6 9 21),
    (0b000000_1101_110000110101_01001_00110#32, .andi 6 9 3125),
    (0b000000_1110_110000110101_01001_00110#32, .ori 6 9 3125),
    (0b000000_1111_110000110101_01001_00110#32, .xori 6 9 3125),
    (0b000000_0000_01_01110_10101_01001_00110#32, .sllW 6 9 21),
    (0b000000_0000_01_01111_10101_01001_00110#32, .srlW 6 9 21),
    (0b000000_0000_01_10000_10101_01001_00110#32, .sraW 6 9 21),
    (0b000000_0001_00_00001_10011_01001_00110#32, .slliW 6 9 19),
    (0b000000_0001_00_01001_10011_01001_00110#32, .srliW 6 9 19),
    (0b000000_0001_00_10001_10011_01001_00110#32, .sraiW 6 9 19)] = true := by decide

theorem test_decode_branch : decodesTo [
    (0b010110_1011001011010001_01001_00110#32, .beq 9 6 45777),
    (0b010111_1011001011010001_01001_00110#32, .bne 9 6 45777),
    (0b011000_1011001011010001_01001_00110#32, .blt 9 6 45777),
    (0b011001_1011001011010001_01001_00110#32, .bge 9 6 45777),
    (0b011010_1011001011010001_01001_00110#32, .bltu 9 6 45777),
    (0b011011_1011001011010001_01001_00110#32, .bgeu 9 6 45777),
    (0b010100_1011001011010001_1010100110#32, .b 44479185),
    (0b010101_1011001011010001_1010100110#32, .bl 44479185),
    (0b010011_1011001011010001_01001_00110#32, .jirl 6 9 45777)] = true := by decide

theorem test_decode_load_store : decodesTo [
    (0b001010_0000_100110100101_01001_00110#32, .ldB 6 9 2469),
    (0b001010_0001_100110100101_01001_00110#32, .ldH 6 9 2469),
    (0b001010_0010_100110100101_01001_00110#32, .ldW 6 9 2469),
    (0b001010_1000_100110100101_01001_00110#32, .ldBu 6 9 2469),
    (0b001010_1001_100110100101_01001_00110#32, .ldHu 6 9 2469),
    (0b001010_0100_100110100101_01001_00110#32, .stB 6 9 2469),
    (0b001010_0101_100110100101_01001_00110#32, .stH 6 9 2469),
    (0b001010_0110_100110100101_01001_00110#32, .stW 6 9 2469),
    (0b001010_1011_100110100101_01001_01101#32, .preld 13 9 2469)] = true := by decide

theorem test_decode_atomic : decodesTo [
    (0b001000_00_10101001110001_01001_00110#32, .llW 6 9 10865),
    (0b001000_01_10101001110001_01001_00110#32, .scW 6 9 10865),
    (0b001110_0001_11_00100_100110100101010#32, .dbar 19754),
    (0b001110_0001_11_00101_100110100101010#32, .ibar 19754)] = true := by decide

theorem test_decode_misc : decodesTo [
    (0b000000_0000_10_10110_100110100101010#32, .syscall 19754),
    (0b000000_0000_10_10100_100110100101010#32, .brk 19754),
    (0b000000_0000_00_00000_11000_00000_00110#32, .rdcntvlW 6),
    (0b000000_0000_00_00000_11001_00000_00110#32, .rdcntvhW 6),
    (0b000000_0000_00_00000_11000_01001_00000#32, .rdcntid 9)] = true := by decide

theorem test_decode_fp_arith_1 : decodesTo [
    (0b000000_0100_00_00001_10101_01001_00110#32, .faddS 6 9 21),
    (0b000000_0100_00_00010_10101_01001_00110#32, .faddD 6 9 21),
    (0b000000_0100_00_00101_10101_01001_00110#32, .fsubS 6 9 21),
    (0b000000_0100_00_00110_10101_01001_00110#32, .fsubD 6 9 21),
    (0b000000_0100_00_01001_10101_01001_00110#32, .fmulS 6 9 21),
    (0b000000_0100_00_01010_10101_01001_00110#32, .fmulD 6 9 21),
    (0b000000_0100_00_01101_10101_01001_00110#32, .fdivS 6 9 21),
    (0b000000_0100_00_01110_10101_01001_00110#32, .fdivD 6 9 21),
    (0b000010_0000_01_11110_10101_01001_00110#32, .fmaddS 6 9 21 30),
    (0b000010_0000_10_11110_10101_01001_00110#32, .fmaddD 6 9 21 30),
    (0b000010_0001_01_11110_10101_01001_00110#32, .fmsubS 6 9 21 30),
    (0b000010_0001_10_11110_10101_01001_00110#32, .fmsubD 6 9 21 30),
    (0b000010_0010_01_11110_10101_01001_00110#32, .fnmaddS 6 9 21 30),
    (0b000010_0010_10_11110_10101_01001_00110#32, .fnmaddD 6 9 21 30),
    (0b000010_0011_01_11110_10101_01001_00110#32, .fnmsubS 6 9 21 30),
    (0b000010_0011_10_11110_10101_01001_00110#32, .fnmsubD 6 9 21 30)] = true := by decide

theorem test_decode_fp_arith_2 : decodesTo [
    (0b000000_0100_00_10001_10101_01001_00110#32, .fmaxS 6 9 21),
    (0b000000_0100_00_10010_10101_01001_00110#32, .fmaxD 6 9 21),
    (0b000000_0100_00_10101_10101_01001_00110#32, .fminS 6 9 21),
    (0b000000_0100_00_10110_10101_01001_00110#32, .fminD 6 9 21),
    (0b000000_0100_00_11001_10101_01001_00110#32, .fmaxaS 6 9 21),
    (0b000000_0100_00_11010_10101_01001_00110#32, .fmaxaD 6 9 21),
    (0b000000_0100_00_11101_10101_01001_00110#32, .fminaS 6 9 21),
    (0b000000_0100_00_11110_10101_01001_00110#32, .fminaD 6 9 21),
    (0b000000_0100_01_01000_00001_01001_00110#32, .fabsS 6 9),
    (0b000000_0100_01_01000_00010_01001_00110#32, .fabsD 6 9),
    (0b000000_0100_01_01000_00101_01001_00110#32, .fnegS 6 9),
    (0b000000_0100_01_01000_00110_01001_00110#32, .fnegD 6 9),
    (0b000000_0100_01_01000_10001_01001_00110#32, .fsqrtS 6 9),
    (0b000000_0100_01_01000_10010_01001_00110#32, .fsqrtD 6 9),
    (0b000000_0100_01_01000_10101_01001_00110#32, .frecipS 6 9),
    (0b000000_0100_01_01000_10110_01001_00110#32, .frecipD 6 9)] = true := by decide

theorem test_decode_fp_arith_3 : decodesTo [
    (0b000000_0100_01_01000_11001_01001_00110#32, .frsqrtS 6 9),
    (0b000000_0100_01_01000_11010_01001_00110#32, .frsqrtD 6 9),
    (0b000000_0100_01_00101_10101_01001_00110#32, .fcopysignS 6 9 21),
    (0b000000_0100_01_00110_10101_01001_00110#32, .fcopysignD 6 9 21),
    (0b000000_0100_01_01000_01101_01001_00110#32, .fclassS 6 9),
    (0b000000_0100_01_01000_01110_01001_00110#32, .fclassD 6 9)] = true := by decide

theorem test_decode_fp_cmp_cvt_1 : decodesTo [
    (0b000011_0000_01_00000_10101_01001_00_101#32, .fcmpCafS 5 9 21),
    (0b000011_0000_01_01000_10101_01001_00_101#32, .fcmpCunS 5 9 21),
    (0b000011_0000_01_00100_10101_01001_00_101#32, .fcmpCeqS 5 9 21),
    (0b000011_0000_01_01100_10101_01001_00_101#32, .fcmpCueqS 5 9 21),
    (0b000011_0000_01_00010_10101_01001_00_101#32, .fcmpCltS 5 9 21),
    (0b000011_0000_01_01010_10101_01001_00_101#32, .fcmpCultS 5 9 21),
    (0b000011_0000_01_00110_10101_01001_00_101#32, .fcmpCleS 5 9 21),
    (0b000011_0000_01_01110_10101_01001_00_101#32, .fcmpCuleS 5 9 21),
    (0b000011_0000_01_10000_10101_01001_00_101#32, .fcmpCneS 5 9 21),
    (0b000011_0000_01_10100_10101_01001_00_101#32, .fcmpCorS 5 9 21),
    (0b000011_0000_01_11000_10101_01001_00_101#32, .fcmpCuneS 5 9 21),
    (0b000011_0000_01_00001_10101_01001_00_101#32, .fcmpSafS 5 9 21),
    (0b000011_0000_01_01001_10101_01001_00_101#32, .fcmpSunS 5 9 21),
    (0b000011_0000_01_00101_10101_01001_00_101#32, .fcmpSeqS 5 9 21),
    (0b000011_0000_01_01101_10101_01001_00_101#32, .fcmpSueqS 5 9 21),
    (0b000011_0000_01_00011_10101_01001_00_101#32, .fcmpSltS 5 9 21)] = true := by decide

theorem test_decode_fp_cmp_cvt_2 : decodesTo [
    (0b000011_0000_01_01011_10101_01001_00_101#32, .fcmpSultS 5 9 21),
    (0b000011_0000_01_00111_10101_01001_00_101#32, .fcmpSleS 5 9 21),
    (0b000011_0000_01_01111_10101_01001_00_101#32, .fcmpSuleS 5 9 21),
    (0b000011_0000_01_10001_10101_01001_00_101#32, .fcmpSneS 5 9 21),
    (0b000011_0000_01_10101_10101_01001_00_101#32, .fcmpSorS 5 9 21),
    (0b000011_0000_01_11001_10101_01001_00_101#32, .fcmpSuneS 5 9 21),
    (0b000011_0000_10_00000_10101_01001_00_101#32, .fcmpCafD 5 9 21),
    (0b000011_0000_10_01000_10101_01001_00_101#32, .fcmpCunD 5 9 21),
    (0b000011_0000_10_00100_10101_01001_00_101#32, .fcmpCeqD 5 9 21),
    (0b000011_0000_10_01100_10101_01001_00_101#32, .fcmpCueqD 5 9 21),
    (0b000011_0000_10_00010_10101_01001_00_101#32, .fcmpCltD 5 9 21),
    (0b000011_0000_10_01010_10101_01001_00_101#32, .fcmpCultD 5 9 21),
    (0b000011_0000_10_00110_10101_01001_00_101#32, .fcmpCleD 5 9 21),
    (0b000011_0000_10_01110_10101_01001_00_101#32, .fcmpCuleD 5 9 21),
    (0b000011_0000_10_10000_10101_01001_00_101#32, .fcmpCneD 5 9 21),
    (0b000011_0000_10_10100_10101_01001_00_101#32, .fcmpCorD 5 9 21)] = true := by decide

theorem test_decode_fp_cmp_cvt_3 : decodesTo [
    (0b000011_0000_10_11000_10101_01001_00_101#32, .fcmpCuneD 5 9 21),
    (0b000011_0000_10_00001_10101_01001_00_101#32, .fcmpSafD 5 9 21),
    (0b000011_0000_10_01001_10101_01001_00_101#32, .fcmpSunD 5 9 21),
    (0b000011_0000_10_00101_10101_01001_00_101#32, .fcmpSeqD 5 9 21),
    (0b000011_0000_10_01101_10101_01001_00_101#32, .fcmpSueqD 5 9 21),
    (0b000011_0000_10_00011_10101_01001_00_101#32, .fcmpSltD 5 9 21),
    (0b000011_0000_10_01011_10101_01001_00_101#32, .fcmpSultD 5 9 21),
    (0b000011_0000_10_00111_10101_01001_00_101#32, .fcmpSleD 5 9 21),
    (0b000011_0000_10_01111_10101_01001_00_101#32, .fcmpSuleD 5 9 21),
    (0b000011_0000_10_10001_10101_01001_00_101#32, .fcmpSneD 5 9 21),
    (0b000011_0000_10_10101_10101_01001_00_101#32, .fcmpSorD 5 9 21),
    (0b000011_0000_10_11001_10101_01001_00_101#32, .fcmpSuneD 5 9 21),
    (0b000000_0100_01_10010_00110_01001_00110#32, .fcvtSD 6 9),
    (0b000000_0100_01_10010_01001_01001_00110#32, .fcvtDS 6 9),
    (0b000000_0100_01_11010_00100_01001_00110#32, .ffintSW 6 9),
    (0b000000_0100_01_11010_01000_01001_00110#32, .ffintDW 6 9)] = true := by decide

theorem test_decode_fp_cmp_cvt_4 : decodesTo [
    (0b000000_0100_01_10110_00001_01001_00110#32, .ftintWS 6 9),
    (0b000000_0100_01_10110_00010_01001_00110#32, .ftintWD 6 9),
    (0b000000_0100_01_10100_00001_01001_00110#32, .ftintrmWS 6 9),
    (0b000000_0100_01_10100_00010_01001_00110#32, .ftintrmWD 6 9),
    (0b000000_0100_01_10100_10001_01001_00110#32, .ftintrpWS 6 9),
    (0b000000_0100_01_10100_10010_01001_00110#32, .ftintrpWD 6 9),
    (0b000000_0100_01_10101_00001_01001_00110#32, .ftintrzWS 6 9),
    (0b000000_0100_01_10101_00010_01001_00110#32, .ftintrzWD 6 9),
    (0b000000_0100_01_10101_10001_01001_00110#32, .ftintrneWS 6 9),
    (0b000000_0100_01_10101_10010_01001_00110#32, .ftintrneWD 6 9)] = true := by decide

theorem test_decode_fp_move_1 : decodesTo [
    (0b000000_0100_01_01001_00101_01001_00110#32, .fmovS 6 9),
    (0b000000_0100_01_01001_00110_01001_00110#32, .fmovD 6 9),
    (0b000011_0100_00_00_110_10101_01001_00110#32, .fsel 6 9 21 6),
    (0b000000_0100_01_01001_01001_01001_00110#32, .movgr2frW 6 9),
    (0b000000_0100_01_01001_01010_01001_00110#32, .movgr2frhW 6 9),
    (0b000000_0100_01_01001_01101_01001_00110#32, .movfr2grS 6 9),
    (0b000000_0100_01_01001_01110_01001_00110#32, .movfrh2grS 6 9),
    (0b000000_0100_01_01001_10000_01001_00010#32, .movgr2fcsr 2 9),
    (0b000000_0100_01_01001_10010_00010_00110#32, .movfcsr2gr 6 2),
    (0b000000_0100_01_01001_10100_01001_00_101#32, .movfr2cf 5 9),
    (0b000000_0100_01_01001_10101_00_011_00110#32, .movcf2fr 6 3),
    (0b000000_0100_01_01001_10110_01001_00_101#32, .movgr2cf 5 9),
    (0b000000_0100_01_01001_10111_00_011_00110#32, .movcf2gr 6 3),
    (0b010010_1011001011010001_00_011_10110#32, .bceqz 3 1487569),
    (0b010010_1011001011010001_01_011_10110#32, .bcnez 3 1487569),
    (0b001010_1100_100110100101_01001_00110#32, .fldS 6 9 2469)] = true := by decide

theorem test_decode_fp_move_2 : decodesTo [
    (0b001010_1101_100110100101_01001_00110#32, .fldD 6 9 2469),
    (0b001010_1110_100110100101_01001_00110#32, .fstS 6 9 2469),
    (0b001010_1111_100110100101_01001_00110#32, .fstD 6 9 2469)] = true := by decide

theorem test_decode_priv : decodesTo [
    (0b000001_00_00000110000001_00000_00110#32, .csrrd 6 385),
    (0b000001_00_00000110000001_00001_00110#32, .csrwr 6 385),
    (0b000001_00_00000110000001_01001_00110#32, .csrxchg 6 9 385),
    (0b000001_1000_100110100101_01001_10001#32, .cacop 17 9 2469),
    (0b000001_1001_00_10000_01010_00000_00000#32, .tlbsrch),
    (0b000001_1001_00_10000_01011_00000_00000#32, .tlbrd),
    (0b000001_1001_00_10000_01100_00000_00000#32, .tlbwr),
    (0b000001_1001_00_10000_01101_00000_00000#32, .tlbfill),
    (0b000001_1001_00_10011_10101_01001_00101#32, .invtlb 5 9 21),
    (0b000001_1001_00_10000_01110_00000_00000#32, .ertn),
    (0b000001_1001_00_10001_101101000111100#32, .idle 23100)] = true := by decide

/-- Words that match no row (vectors V1, V2, V6, V8, V13, V14, V17, V20, V28, V30). -/
theorem test_reserved_words : ([0x00000000, 0xFFFFFFFF, 0x000060C5, 0x000064C0, 0x0C1B0820, 0x0C120828, 0x48000A00,
    0x06482801, 0x00108000, 0x0D040C41] : List Word).all
    (fun w => decide (decodeWord w = .rejected .reservedEncoding)) = true := by decide

/-- Neighbouring encodings that must not be confused (vectors V4, V9, V10, V11, V24, V26). -/
theorem test_near_words : decodesTo [
    (0x00006000, .rdcntvlW 0), (0x04000004, .csrrd 4 0), (0x04000024, .csrwr 4 0), (0x04000044, .csrxchg 4 2 0),
    (0x29000086, .stB 6 4 0), (0x02400080, .sltui 0 4 0)] = true := by decide

theorem test_bytes_in_memory_order : decodeBytes [0x86#8, 0x14#8, 0x10#8, 0x00#8] = .ok (.addW 6 4 5) := by decide
theorem test_truncated_bytes : decodeBytes [0x86#8, 0x14#8, 0x10#8] = .rejected .truncated := by decide

/-! ### Single steps -/

/-- The reset state with the floating-point unit enabled, at `0x1C000100`, with these general registers. -/
def start (l : List (RegNum × Word)) : State :=
  l.foldl (fun s p => s.setReg p.1 p.2)
    { State.reset with pc := 0x1C000100, csr := { Csrs.reset with euen := 1, eentry := 0x1C008000 } }

/-- The same with floating-point registers given as high and low halves. -/
def startFp (l : List (RegNum × Word × Word)) (fcsr : Word) : State :=
  l.foldl (fun s p => s.setFreg p.1 { hi := p.2.1, lo := p.2.2 }) ((start []).setFcsr fcsr)

/-- The state with the bytes of a word stored at an address. -/
def withWord (s : State) (a : Nat) (v : Nat) : State := { s with mem := s.mem.store a 4 v }

/-- The state with other CSRs. -/
def withCsr (s : State) (f : Csrs → Csrs) : State := { s with csr := f s.csr }

/-- A view of the next state of an instruction; none when there is none. -/
def after {α : Type} (i : Instr) (s : State) (view : State → α) : Option α :=
  match exec i s with
  | .next t => some (view t)
  | .fault _ => none
  | .refused _ => none

/-- V32. -/
theorem test_add_wraps : after (.addW 6 4 5) (start [(4, 0x7FFFFFFF), (5, 1)]) (fun t => (t.reg 6, t.pc)) = some (0x80000000, 0x1C000104) := by decide

/-- V35. -/
theorem test_add_to_itself : after (.addW 4 4 4) (start [(4, 0x40000000)]) (fun t => (t.reg 4, t.pc)) = some (0x80000000, 0x1C000104) := by decide

/-- V36. -/
theorem test_sub_borrows : after (.subW 6 4 5) (start [(4, 0), (5, 1)]) (fun t => (t.reg 6, t.pc)) = some (0xFFFFFFFF, 0x1C000104) := by decide

/-- V39. -/
theorem test_addi_sign_extends : after (.addiW 5 4 0xFFF) (start []) (fun t => (t.reg 5, t.pc)) = some (0xFFFFFFFF, 0x1C000104) := by decide

/-- V44. -/
theorem test_lu12i : after (.lu12iW 4 0x80000) (start []) (fun t => (t.reg 4, t.pc)) = some (0x80000000, 0x1C000104) := by decide

/-- V47. -/
theorem test_slt_is_signed : after (.slt 6 4 5) (start [(4, 0x80000000), (5, 0x7FFFFFFF)]) (fun t => (t.reg 6, t.pc)) = some (1, 0x1C000104) := by decide

/-- V49. -/
theorem test_sltu_is_unsigned : after (.sltu 6 4 5) (start [(4, 0xFFFFFFFF), (5, 1)]) (fun t => (t.reg 6, t.pc)) = some (0, 0x1C000104) := by decide

/-- V52. -/
theorem test_slti : after (.slti 5 4 0xFFF) (start [(4, 0xFFFFFFFE)]) (fun t => (t.reg 5, t.pc)) = some (1, 0x1C000104) := by decide

/-- V57. -/
theorem test_sltui_sign_extends : after (.sltui 5 4 0x800) (start [(4, 0x7FFFFFFF)]) (fun t => (t.reg 5, t.pc)) = some (1, 0x1C000104) := by decide

/-- derived from V60. -/
theorem test_pcaddu12i : after (.pcaddu12i 4 0xFFFFF) (start []) (fun t => (t.reg 4, t.pc)) = some (0x1BFFF100, 0x1C000104) := by decide

/-- V62. -/
theorem test_mul_low : after (.mulW 6 4 5) (start [(4, 7), (5, 0xFFFFFFFD)]) (fun t => (t.reg 6, t.pc)) = some (0xFFFFFFEB, 0x1C000104) := by decide

/-- V67. -/
theorem test_mulh_signed : after (.mulhW 6 4 5) (start [(4, 0x80000000), (5, 1)]) (fun t => (t.reg 6, t.pc)) = some (0xFFFFFFFF, 0x1C000104) := by decide

/-- V69. -/
theorem test_mulh_unsigned : after (.mulhWu 6 4 5) (start [(4, 0xFFFFFFFF), (5, 0xFFFFFFFF)]) (fun t => (t.reg 6, t.pc)) = some (0xFFFFFFFE, 0x1C000104) := by decide

/-- V74. -/
theorem test_div_toward_zero : after (.divW 6 4 5) (start [(4, 0xFFFFFFF9), (5, 2)]) (fun t => (t.reg 6, t.pc)) = some (0xFFFFFFFD, 0x1C000104) := by decide

/-- V80. -/
theorem test_div_overflow : after (.divW 6 4 5) (start [(4, 0x80000000), (5, 0xFFFFFFFF)]) (fun t => (t.reg 6, t.pc)) = some (0x80000000, 0x1C000104) := by decide

/-- V75. -/
theorem test_mod_sign_of_dividend : after (.modW 6 4 5) (start [(4, 0xFFFFFFF9), (5, 2)]) (fun t => (t.reg 6, t.pc)) = some (0xFFFFFFFF, 0x1C000104) := by decide

/-- V84. -/
theorem test_divu : after (.divWu 6 4 5) (start [(4, 0xFFFFFFF9), (5, 2)]) (fun t => (t.reg 6, t.pc)) = some (0x7FFFFFFC, 0x1C000104) := by decide

/-- V87. -/
theorem test_modu : after (.modWu 6 4 5) (start [(4, 0x80000000), (5, 0xFFFFFFFF)]) (fun t => (t.reg 6, t.pc)) = some (0x80000000, 0x1C000104) := by decide

/-- V92. -/
theorem test_and : after (.and 6 4 5) (start [(4, 0xF0F0F0F0), (5, 0xFF00FF00)]) (fun t => (t.reg 6, t.pc)) = some (0xF000F000, 0x1C000104) := by decide

/-- V93. -/
theorem test_or : after (.or 6 4 5) (start [(4, 0xF0F0F0F0), (5, 0xFF00FF00)]) (fun t => (t.reg 6, t.pc)) = some (0xFFF0FFF0, 0x1C000104) := by decide

/-- V94. -/
theorem test_nor : after (.nor 6 4 5) (start [(4, 0xF0F0F0F0), (5, 0xFF00FF00)]) (fun t => (t.reg 6, t.pc)) = some (0x000F000F, 0x1C000104) := by decide

/-- V95. -/
theorem test_xor : after (.xor 6 4 5) (start [(4, 0xF0F0F0F0), (5, 0xFF00FF00)]) (fun t => (t.reg 6, t.pc)) = some (0x0FF00FF0, 0x1C000104) := by decide

/-- V99. -/
theorem test_andi_zero_extends : after (.andi 5 4 0xFFF) (start [(4, 0xFFFFFFFF)]) (fun t => (t.reg 5, t.pc)) = some (0xFFF, 0x1C000104) := by decide

/-- V101. -/
theorem test_ori_zero_extends : after (.ori 5 0 0x800) (start []) (fun t => (t.reg 5, t.pc)) = some (0x800, 0x1C000104) := by decide

/-- V103. -/
theorem test_xori : after (.xori 5 4 0xFFF) (start [(4, 0xFFFFFFFF)]) (fun t => (t.reg 5, t.pc)) = some (0xFFFFF000, 0x1C000104) := by decide

/-- V106. -/
theorem test_sll_amount_mod_32 : after (.sllW 6 4 5) (start [(4, 1), (5, 0x21)]) (fun t => (t.reg 6, t.pc)) = some (2, 0x1C000104) := by decide

/-- V109. -/
theorem test_srl : after (.srlW 6 4 5) (start [(4, 0x80000000), (5, 0xFFFFFFE4)]) (fun t => (t.reg 6, t.pc)) = some (0x08000000, 0x1C000104) := by decide

/-- V110. -/
theorem test_sra_sign_fill : after (.sraW 6 4 5) (start [(4, 0x80000000), (5, 0x1F)]) (fun t => (t.reg 6, t.pc)) = some (0xFFFFFFFF, 0x1C000104) := by decide

/-- V113. -/
theorem test_slli : after (.slliW 5 4 31) (start [(4, 3)]) (fun t => (t.reg 5, t.pc)) = some (0x80000000, 0x1C000104) := by decide

/-- V115. -/
theorem test_srli : after (.srliW 5 4 4) (start [(4, 0xF0000000)]) (fun t => (t.reg 5, t.pc)) = some (0x0F000000, 0x1C000104) := by decide

/-- V117. -/
theorem test_srai : after (.sraiW 5 4 4) (start [(4, 0xF0000000)]) (fun t => (t.reg 5, t.pc)) = some (0xFF000000, 0x1C000104) := by decide

/-- V121. -/
theorem test_beq_not_taken : after (.beq 4 5 4) (start [(4, 7), (5, 8)]) (fun t => (t.reg 0, t.pc)) = some (0, 0x1C000104) := by decide

/-- V132. -/
theorem test_beq_backward : after (.beq 0 0 0x8000) (start []) (fun t => (t.reg 0, t.pc)) = some (0, 0x1BFE0100) := by decide

/-- V123. -/
theorem test_bne : after (.bne 4 0 0xFFFE) (start [(4, 1)]) (fun t => (t.reg 0, t.pc)) = some (0, 0x1C0000F8) := by decide

/-- V125. -/
theorem test_blt : after (.blt 4 5 8) (start [(4, 0xFFFFFFFF), (5, 1)]) (fun t => (t.reg 0, t.pc)) = some (0, 0x1C000120) := by decide

/-- V129. -/
theorem test_bge : after (.bge 4 5 8) (start [(4, 0x80000000), (5, 0)]) (fun t => (t.reg 0, t.pc)) = some (0, 0x1C000104) := by decide

/-- V126. -/
theorem test_bltu : after (.bltu 4 5 8) (start [(4, 0xFFFFFFFF), (5, 1)]) (fun t => (t.reg 0, t.pc)) = some (0, 0x1C000104) := by decide

/-- V130. -/
theorem test_bgeu : after (.bgeu 4 5 8) (start [(4, 0x80000000), (5, 0)]) (fun t => (t.reg 0, t.pc)) = some (0, 0x1C000120) := by decide

/-- V136. -/
theorem test_b : after (.b 0x2000000) (start []) (fun t => (t.reg 1, t.pc)) = some (0, 0x14000100) := by decide

/-- derived from V138. -/
theorem test_bl : after (.bl 0x400) (start [(1, 0xAAAAAAAA)]) (fun t => (t.reg 1, t.pc)) = some (0x1C000104, 0x1C001100) := by decide

/-- derived from V142. -/
theorem test_jirl_rd_is_rj : after (.jirl 4 4 0) (start [(4, 0x1C003000)]) (fun t => (t.reg 4, t.pc)) = some (0x1C000104, 0x1C003000) := by decide

/-- V146. -/
theorem test_ldb : after (.ldB 5 4 0) (withWord (start [(4, 0x1C001000)]) 0x1C001000 0x89ABCDEF) (fun t => (t.reg 5, t.pc)) = some (0xFFFFFFEF, 0x1C000104) := by decide

/-- V149. -/
theorem test_ldbu : after (.ldBu 5 4 3) (withWord (start [(4, 0x1C001000)]) 0x1C001000 0x89ABCDEF) (fun t => (t.reg 5, t.pc)) = some (0x89, 0x1C000104) := by decide

/-- V153. -/
theorem test_ldh : after (.ldH 5 4 2) (withWord (start [(4, 0x1C001000)]) 0x1C001000 0x89ABCDEF) (fun t => (t.reg 5, t.pc)) = some (0xFFFF89AB, 0x1C000104) := by decide

/-- V152. -/
theorem test_ldhu : after (.ldHu 5 4 0) (withWord (start [(4, 0x1C001000)]) 0x1C001000 0x89ABCDEF) (fun t => (t.reg 5, t.pc)) = some (0xCDEF, 0x1C000104) := by decide

/-- V156. -/
theorem test_ldw_negative_offset : after (.ldW 5 4 0xFFC) (withWord (start [(4, 0x1C001004)]) 0x1C001000 0x89ABCDEF) (fun t => (t.reg 5, t.pc)) = some (0x89ABCDEF, 0x1C000104) := by decide

/-- V159. -/
theorem test_ldw_misaligned : after (.ldW 5 4 2) (start [(4, 0x1C001000), (5, 0x55555555)])
    (fun t => (t.csr.estat, t.csr.era, t.csr.badv, t.pc, t.reg 5)) =
    some (0x00090000, 0x1C000100, 0x1C001002, 0x1C008000, 0x55555555) := by decide

/-- V162. -/
theorem test_stw : after (.stW 5 4 0) (withWord (start [(4, 0x1C001000), (5, 0xA1B2C3D4)]) 0x1C001000 0)
    (fun t => [0, 1, 2, 3].map (fun k => t.mem.read (0x1C001000 + k))) = some [0xD4, 0xC3, 0xB2, 0xA1] := by decide

/-- V164. -/
theorem test_sth : after (.stH 5 4 2) (withWord (start [(4, 0x1C001000), (5, 0xA1B2C3D4)]) 0x1C001000 0)
    (fun t => [0, 1, 2, 3].map (fun k => t.mem.read (0x1C001000 + k))) = some [0x00, 0x00, 0xD4, 0xC3] := by decide

/-- V167. -/
theorem test_stb_of_r0 : after (.stB 0 4 1) (withWord (start [(4, 0x1C001000), (5, 0xA1B2C3D4)]) 0x1C001000 0xFFFFFFFF)
    (fun t => [0, 1, 2, 3].map (fun k => t.mem.read (0x1C001000 + k))) = some [0xFF, 0x00, 0xFF, 0xFF] := by decide

/-- V171. -/
theorem test_preld_odd_address : after (.preld 8 4 1) (start [(4, 0x1C001000)]) (fun t => (t.pc, t.csr)) =
    some (0x1C000104, (start []).csr) := by decide

/-- V173. -/
theorem test_ll_cached : after (.llW 5 4 0) (withWord (withCsr (start [(4, 0x1C001000), (6, 8)]) (fun c => { c with crmd := 0x88 })) 0x1C001000 7)
    (fun t => (t.reg 5, t.llbit, t.lladdr)) = some (7, true, 0x1C001000) := by decide

/-- V176. -/
theorem test_sc_stores : after (.scW 6 4 0) ((withWord (withCsr (start [(4, 0x1C001000), (6, 8)]) (fun c => { c with crmd := 0x88 })) 0x1C001000 7).setLlbit true)
    (fun t => (t.reg 6, t.llbit, t.mem.read 0x1C001000)) = some (1, false, 8) := by decide

/-- V177. -/
theorem test_sc_fails : after (.scW 6 4 0) (withWord (withCsr (start [(4, 0x1C001000), (6, 8)]) (fun c => { c with crmd := 0x88 })) 0x1C001000 7)
    (fun t => (t.reg 6, t.llbit, t.mem.read 0x1C001000)) = some (0, false, 7) := by decide

/-- V182, V183. -/
theorem test_barriers : (after (.dbar 0x7FFF) (start []) (fun t => t.pc), after (.ibar 0) (start []) (fun t => t.pc)) =
    (some 0x1C000104, some 0x1C000104) := by decide

/-- V184. -/
theorem test_syscall_from_user_mode : after (.syscall 0x11) (withCsr (start []) (fun c => { c with crmd := 0xF }))
    (fun t => (t.csr.crmd, t.csr.prmd, t.csr.estat, t.csr.era, t.pc)) =
    some (8, 7, 0x000B0000, 0x1C000100, 0x1C008000) := by decide

/-- V186. -/
theorem test_break : after (.brk 5) (start []) (fun t => (t.csr.estat, t.csr.era, t.pc)) =
    some (0x000C0000, 0x1C000100, 0x1C008000) := by decide

/-- V187, V188, V189. -/
theorem test_counter_reads : (after (.rdcntvlW 4) { start [] with counter := 0x1FFFFFFF0 } (fun t => t.reg 4),
    after (.rdcntvhW 4) { start [] with counter := 0x1FFFFFFF0 } (fun t => t.reg 4),
    after (.rdcntid 6) (withCsr (start []) (fun c => { c with tid := 3 })) (fun t => t.reg 6)) =
    (some 0xFFFFFFF0, some 1, some 3) := by decide

/-- V191. -/
theorem test_fadd_s : after (.faddS 0 1 2) (startFp [(1, 0, 0x3FC00000), (2, 0, 0x40100000)] 0)
    (fun t => ((t.freg 0).lo, t.fcsr)) = some (0x40700000, 0) := by decide

/-- V193. -/
theorem test_fadd_s_overflow_toward_zero : after (.faddS 0 1 2) (startFp [(1, 0, 0x7F7FFFFF), (2, 0, 0x7F7FFFFF)] 0x100)
    (fun t => ((t.freg 0).lo, t.fcsr)) = some (0x7F7FFFFF, 0x05050100) := by decide

/-- V200. -/
theorem test_fadd_d_tie : after (.faddD 0 1 2) (startFp [(1, 0x3FF00000, 0x00000000), (2, 0x3CA00000, 0x00000000)] 0)
    (fun t => ((t.freg 0).hi, (t.freg 0).lo, t.fcsr)) = some (0x3FF00000, 0x00000000, 0x01010000) := by decide

/-- V203. -/
theorem test_fsub_s_zero_sign : after (.fsubS 0 1 2) (startFp [(1, 0, 0x3F800000), (2, 0, 0x3F800000)] 0x300)
    (fun t => ((t.freg 0).lo, t.fcsr)) = some (0x80000000, 0x300) := by decide

/-- V204. -/
theorem test_fsub_d : after (.fsubD 0 1 2) (startFp [(1, 0x40080000, 0x00000000), (2, 0x40140000, 0x00000000)] 0)
    (fun t => ((t.freg 0).hi, (t.freg 0).lo, t.fcsr)) = some (0xC0000000, 0x00000000, 0) := by decide

/-- V207. -/
theorem test_fmul_s_underflow : after (.fmulS 0 1 2) (startFp [(1, 0, 0x00800000), (2, 0, 0x00800000)] 0)
    (fun t => ((t.freg 0).lo, t.fcsr)) = some (0, 0x03030000) := by decide

/-- V209. -/
theorem test_fmul_d : after (.fmulD 0 1 2) (startFp [(1, 0x3FF80000, 0x00000000), (2, 0x3FF80000, 0x00000000)] 0)
    (fun t => ((t.freg 0).hi, (t.freg 0).lo, t.fcsr)) = some (0x40020000, 0x00000000, 0) := by decide

/-- V210. -/
theorem test_fdiv_s : after (.fdivS 0 1 2) (startFp [(1, 0, 0x3F800000), (2, 0, 0x40400000)] 0)
    (fun t => ((t.freg 0).lo, t.fcsr)) = some (0x3EAAAAAB, 0x01010000) := by decide

/-- V212. -/
theorem test_fdiv_s_by_zero : after (.fdivS 0 1 2) (startFp [(1, 0, 0xBF800000), (2, 0, 0)] 0)
    (fun t => ((t.freg 0).lo, t.fcsr)) = some (0xFF800000, 0x08080000) := by decide

/-- V214. -/
theorem test_fdiv_d : after (.fdivD 0 1 2) (startFp [(1, 0x3FF00000, 0x00000000), (2, 0x40080000, 0x00000000)] 0)
    (fun t => ((t.freg 0).hi, (t.freg 0).lo, t.fcsr)) = some (0x3FD55555, 0x55555555, 0x01010000) := by decide

/-- V219. -/
theorem test_fmadd_s_rounds_once : after (.fmaddS 0 1 2 3) (startFp [(1, 0, 0x3F800001), (2, 0, 0x3F800001), (3, 0, 0xBF800002)] 0)
    (fun t => ((t.freg 0).lo, t.fcsr)) = some (0x28800000, 0) := by decide

/-- V216. -/
theorem test_fmsub_s : after (.fmsubS 0 1 2 3) (startFp [(1, 0, 0x40000000), (2, 0, 0x40400000), (3, 0, 0x3F800000)] 0)
    (fun t => ((t.freg 0).lo, t.fcsr)) = some (0x40A00000, 0) := by decide

/-- V222. -/
theorem test_fnmadd_d : after (.fnmaddD 0 1 2 3) (startFp [(1, 0x40000000, 0x00000000), (2, 0x40080000, 0x00000000), (3, 0x3FF00000, 0x00000000)] 0)
    (fun t => ((t.freg 0).hi, (t.freg 0).lo, t.fcsr)) = some (0xC01C0000, 0x00000000, 0) := by decide

/-- V218. -/
theorem test_fnmsub_s : after (.fnmsubS 0 1 2 3) (startFp [(1, 0, 0x40000000), (2, 0, 0x40400000), (3, 0, 0x3F800000)] 0)
    (fun t => ((t.freg 0).lo, t.fcsr)) = some (0xC0A00000, 0) := by decide

/-- V225. -/
theorem test_fmax_s_one_quiet_nan : after (.fmaxS 0 1 2) (startFp [(1, 0, 0x7FC00000), (2, 0, 0x3F800000)] 0)
    (fun t => ((t.freg 0).lo, t.fcsr)) = some (0x3F800000, 0) := by decide

/-- V230. -/
theorem test_fmin_d : after (.fminD 0 1 2) (startFp [(1, 0xFFF00000, 0x00000000), (2, 0x40140000, 0x00000000)] 0)
    (fun t => ((t.freg 0).hi, (t.freg 0).lo, t.fcsr)) = some (0xFFF00000, 0x00000000, 0) := by decide

/-- V231. -/
theorem test_fmaxa_s : after (.fmaxaS 0 1 2) (startFp [(1, 0, 0xC0400000), (2, 0, 0x40000000)] 0)
    (fun t => ((t.freg 0).lo, t.fcsr)) = some (0xC0400000, 0) := by decide

/-- V234. -/
theorem test_fmina_s_equal_magnitudes : after (.fminaS 0 1 2) (startFp [(1, 0, 0xC0000000), (2, 0, 0x40000000)] 0)
    (fun t => ((t.freg 0).lo, t.fcsr)) = some (0xC0000000, 0) := by decide

/-- V238. -/
theorem test_fabs_s_of_a_nan : after (.fabsS 0 1) (startFp [(1, 0, 0xFFA00000)] 0)
    (fun t => ((t.freg 0).lo, t.fcsr)) = some (0x7FA00000, 0) := by decide

/-- V242. -/
theorem test_fneg_d : after (.fnegD 0 1) (startFp [(1, 0x40000000, 0x00000000)] 0)
    (fun t => ((t.freg 0).hi, (t.freg 0).lo, t.fcsr)) = some (0xC0000000, 0x00000000, 0) := by decide

/-- V245. -/
theorem test_fcopysign_d : after (.fcopysignD 0 1 2) (startFp [(1, 0x40080000, 0x00000000), (2, 0x80000000, 0x00000000)] 0)
    (fun t => ((t.freg 0).hi, (t.freg 0).lo, t.fcsr)) = some (0xC0080000, 0x00000000, 0) := by decide

/-- V250. -/
theorem test_fclass_s : after (.fclassS 0 1) (startFp [(1, 0, 0x80000001)] 0)
    (fun t => ((t.freg 0).lo, t.fcsr)) = some (0x10, 0) := by decide

/-- V258. -/
theorem test_fclass_d : after (.fclassD 0 1) (startFp [(1, 0x000FFFFF, 0xFFFFFFFF)] 0)
    (fun t => ((t.freg 0).hi, (t.freg 0).lo, t.fcsr)) = some (0x00000000, 0x00000100, 0) := by decide

/-- V262. -/
theorem test_fsqrt_s : after (.fsqrtS 0 1) (startFp [(1, 0, 0x40000000)] 0)
    (fun t => ((t.freg 0).lo, t.fcsr)) = some (0x3FB504F3, 0x01010000) := by decide +kernel

/-- V265. -/
theorem test_fsqrt_d : after (.fsqrtD 0 1) (startFp [(1, 0x40000000, 0x00000000)] 0)
    (fun t => ((t.freg 0).hi, (t.freg 0).lo, t.fcsr)) = some (0x3FF6A09E, 0x667F3BCD, 0x01010000) := by decide +kernel

/-- V268. -/
theorem test_frecip_s : after (.frecipS 0 1) (startFp [(1, 0, 0x80000000)] 0)
    (fun t => ((t.freg 0).lo, t.fcsr)) = some (0xFF800000, 0x08080000) := by decide

/-- V271. -/
theorem test_frsqrt_s : after (.frsqrtS 0 1) (startFp [(1, 0, 0)] 0)
    (fun t => ((t.freg 0).lo, t.fcsr)) = some (0x7F800000, 0x08080000) := by decide

/-- R360, R361. -/
theorem test_fcmp_unordered : after (.fcmpCunS 0 1 2) (startFp [(1, 0, 0x7FC00000), (2, 0, 0x3F800000)] 0)
    (fun t => (t.flag 0, t.fcsr)) = some (true, 0) := by decide

/-- R360, R362. -/
theorem test_fcmp_signalling_condition : after (.fcmpSltD 7 1 2) (startFp [(1, 0x7FF80000, 0), (2, 0x3FF00000, 0)] 0)
    (fun t => (t.flag 7, t.fcsr)) = some (false, 0x10100000) := by decide

/-- V303. -/
theorem test_fcvt_d_s : after (.fcvtDS 0 1) (startFp [(1, 0x00000000, 0x3DCCCCCD)] 0)
    (fun t => ((t.freg 0).hi, (t.freg 0).lo, t.fcsr)) = some (0x3FB99999, 0xA0000000, 0) := by decide

/-- V300. -/
theorem test_fcvt_s_d_underflow : after (.fcvtSD 0 1) (startFp [(1, 0x36900000, 0x00000000)] 0)
    (fun t => ((t.freg 0).lo, t.fcsr)) = some (0, 0x03030000) := by decide

/-- V310. -/
theorem test_ffint_s_w : after (.ffintSW 0 1) (startFp [(1, 0x00000000, 0x7FFFFFFF)] 0x100)
    (fun t => ((t.freg 0).lo, t.fcsr)) = some (0x4EFFFFFF, 0x01010100) := by decide

/-- V315. -/
theorem test_ftint_w_s : after (.ftintWS 0 1) (startFp [(1, 0x00000000, 0x40200000)] 0x200)
    (fun t => ((t.freg 0).lo, t.fcsr)) = some (0x3, 0x01010200) := by decide

/-- V344. -/
theorem test_ftintrz_w_d : after (.ftintrzWD 0 1) (startFp [(1, 0x41DFFFFF, 0xFFE00000)] 0)
    (fun t => ((t.freg 0).lo, t.fcsr)) = some (0x7FFFFFFF, 0x01010000) := by decide

/-- V334. -/
theorem test_ftintrm_w_s : after (.ftintrmWS 0 1) (startFp [(1, 0x00000000, 0xC0066666)] 0)
    (fun t => ((t.freg 0).lo, t.fcsr)) = some (0xFFFFFFFD, 0x01010000) := by decide

/-- V336. -/
theorem test_ftintrp_w_s : after (.ftintrpWS 0 1) (startFp [(1, 0x00000000, 0x40066666)] 0)
    (fun t => ((t.freg 0).lo, t.fcsr)) = some (0x3, 0x01010000) := by decide

/-- V342. -/
theorem test_ftintrne_w_s : after (.ftintrneWS 0 1) (startFp [(1, 0x00000000, 0x3F000000)] 0)
    (fun t => ((t.freg 0).lo, t.fcsr)) = some (0x0, 0x01010000) := by decide

/-- V348. -/
theorem test_fmov_s_signalling : after (.fmovS 0 1) (startFp [(1, 0x00000000, 0x7F800001)] 0)
    (fun t => ((t.freg 0).lo, t.fcsr)) = some (0x7F800001, 0) := by decide

/-- V351. -/
theorem test_fsel : after (.fsel 0 2 3 7) ((startFp [(2, 1, 1), (3, 2, 2)] 0).setFlag 7 true) (fun t => t.freg 0) =
    some { hi := 2, lo := 2 } := by decide

/-- V354. -/
theorem test_movgr2frh : after (.movgr2frhW 0 5) ((start [(5, 0x400921FB)]).setFreg 0 { hi := 0, lo := 0x54442D18 })
    (fun t => t.freg 0) = some { hi := 0x400921FB, lo := 0x54442D18 } := by decide

/-- V361. -/
theorem test_movgr2fcsr_view_2 : after (.movgr2fcsr 2 4) ((start [(4, 0)]).setFcsr 0x1F1F031F) (fun t => t.fcsr) = some 0x0000031F := by decide

/-- V367. -/
theorem test_movfcsr2gr_view_3 : after (.movfcsr2gr 4 3) ((start []).setFcsr 0x1F1F031F) (fun t => t.reg 4) = some 0x300 := by decide

/-- derived from V377. -/
theorem test_bcnez : after (.bcnez 1 0x1FFFFD) ((start []).setFlag 1 true) (fun t => t.pc) = some 0x1C0000F4 := by decide

/-- V383. -/
theorem test_fld_d : after (.fldD 1 4 8) (withWord (withWord (start [(4, 0x1C001000)]) 0x1C001008 0x54442D18) 0x1C00100C 0x400921FB)
    (fun t => t.freg 1) = some { hi := 0x400921FB, lo := 0x54442D18 } := by decide

/-- V386. -/
theorem test_fld_d_needs_8_bytes_alignment : after (.fldD 1 4 4) (start [(4, 0x1C001000)]) (fun t => (t.csr.estat, t.csr.badv)) =
    some (0x00090000, 0x1C001004) := by decide

/-- V389. -/
theorem test_fst_d : after (.fstD 1 4 0xFF8) ((start [(4, 0x1C001008)]).setFreg 1 { hi := 0x3FF00000, lo := 0 })
    (fun t => [0, 5, 6, 7].map (fun k => t.mem.read (0x1C001000 + k))) = some [0, 0, 0xF0, 0x3F] := by decide

/-- V387. -/
theorem test_fp_disabled : after (.fldD 1 4 4) (withCsr (start [(4, 0x1C001000)]) (fun c => { c with euen := 0 }))
    (fun t => (t.csr.estat, t.csr.badv)) = some (0x000F0000, 0) := by decide

/-- V330. -/
theorem test_fpe : after (.ftintWS 0 1) (startFp [(0, 5, 6), (1, 0, 0x7FC00000)] 0x10)
    (fun t => (t.fcsr, t.freg 0, t.csr.ecode, t.csr.era)) = some (0x10000010, { hi := 5, lo := 6 }, 0x12, 0x1C000100) := by decide

/-- V398. -/
theorem test_csrwr_estat_keeps_read_only_bits : after (.csrwr 4 5) (start [(4, 0xFFFFFFFF)]) (fun t => (t.reg 4, t.csr.estat)) = some (0, 3) := by decide

/-- V402. -/
theorem test_csrwr_tcfg_loads_the_timer : after (.csrwr 4 0x41) (start [(4, 0x21)]) (fun t => (t.csr.tcfg, t.csr.tval, t.timerRunning)) =
    some (0x21, 0x20, true) := by decide

/-- V407. -/
theorem test_csrxchg_masks : after (.csrxchg 4 5 0x30)
    (withCsr (start [(4, 0xAAAAAAAA), (5, 0x0000FFFF)]) (fun c => { c with save0 := 0x12345678 }))
    (fun t => (t.reg 4, t.csr.save0)) = some (0x12345678, 0x1234AAAA) := by decide

/-- V408. -/
theorem test_csrrd_in_user_mode : after (.csrrd 4 0) (withCsr (start [(4, 0x55555555)]) (fun c => { c with crmd := 0xB }))
    (fun t => (t.reg 4, t.csr.crmd, t.csr.prmd, t.csr.estat, t.pc)) =
    some (0x55555555, 8, 3, 0x000E0000, 0x1C008000) := by decide

/-- V413. -/
theorem test_ertn : after .ertn ((withCsr (start []) (fun c => { c with prmd := 7, era := 0x1C004004, estat := 0x000B0000 })).setLlbit true)
    (fun t => (t.csr.crmd, t.llbit, t.pc)) = some (0xF, false, 0x1C004004) := by decide

/-- V416. -/
theorem test_ertn_from_refill : after .ertn (withCsr (start []) (fun c => { c with prmd := 3, era := 0x2004, estat := 0x003F0000 }))
    (fun t => (t.csr.crmd, t.pc)) = some (0x13, 0x2004) := by decide

/-- V410. -/
theorem test_idle : after (.idle 0) (start []) (fun t => (t.idle, t.pc)) = some (true, 0x1C000104) := by decide

/-- V419. -/
theorem test_cacop_index_type : after (.cacop 9 4 0) (start [(4, 0x40)]) (fun t => (t.pc, t.csr)) =
    some (0x1C000104, (start []).csr) := by decide

/-- V424, V425. -/
theorem test_tlbwr_then_tlbsrch : (after .tlbwr (withCsr (start [(5, 5), (6, 0x3FFF)]) (fun c =>
      { c with tlbehi := 0x2000, asid := 5, tlbidx := 0x0C000003, tlbelo0 := 0x01C0101F, tlbelo1 := 0x01C0111D }))
    (fun t => after .tlbsrch t (fun u => u.csr.tlbidx))).join = some 0x0C000003 := by decide

/-- V423. -/
theorem test_tlbsrch_misses : after .tlbsrch (withCsr (start [(5, 5), (6, 0x3FFF)]) (fun c =>
      { c with tlbehi := 0x2000, asid := 5, tlbidx := 0x0C000003, tlbelo0 := 0x01C0101F, tlbelo1 := 0x01C0111D }))
    (fun t => t.csr.tlbidx) = some 0x8C000003 := by decide

/-- V428. -/
theorem test_tlbrd_of_an_invalid_entry : after .tlbrd (withCsr (start [(5, 5), (6, 0x3FFF)]) (fun c =>
      { c with tlbehi := 0x2000, asid := 5, tlbidx := 0x0C000003, tlbelo0 := 0x01C0101F, tlbelo1 := 0x01C0111D }))
    (fun t => (t.csr.tlbidx, t.csr.asid, t.csr.tlbehi, t.csr.tlbelo0)) = some (0x80000003, 0, 0, 0) := by decide

/-- V430. -/
theorem test_invtlb_by_address : (after .tlbwr (withCsr (start [(5, 5), (6, 0x3FFF)]) (fun c =>
      { c with tlbehi := 0x2000, asid := 5, tlbidx := 0x0C000003, tlbelo0 := 0x01C0101F, tlbelo1 := 0x01C0111D }))
    (fun t => after (.invtlb 5 5 6) t (fun u => (u.tlb.get 3).e))).join = some false := by decide +kernel

/-- V436. -/
theorem test_invtlb_op_7 : after (.invtlb 7 0 0) (start []) (fun t => t.csr.estat) = some 0x000D0000 := by decide

/-- V440, V442. -/
theorem test_translation_through_the_tlb : (after .tlbwr (withCsr (start [(5, 5), (6, 0x3FFF)]) (fun c =>
      { c with tlbehi := 0x2000, asid := 5, tlbidx := 0x0C000003, tlbelo0 := 0x01C0101F, tlbelo1 := 0x01C0111D }))
    (fun t =>
      ((withCsr t (fun c => { c with crmd := 0x10 })).translate .load 0x3008,
        (withCsr t (fun c => { c with crmd := 0x10 })).translate .store 0x3008))) =
    some (.mapped 0x1C011008 1, .trapped (.pme 0x3008)) := by decide

/-- R92, R94. -/
theorem test_window : (withCsr State.reset (fun c => { c with crmd := 0x10, dmw0 := 0xA0000011 })).translate .load 0xA0001234 =
    .mapped 0x00001234 1 := by decide

/-! ### Witnesses: for every statement with hypotheses a state and operands that meet all of them together -/

theorem witness_DecodeOfEncode : (Instr.csrxchg 4#5 2#5 0#14).wellFormed = true := by decide

theorem witness_EncodeOfDecode : decodeWord 0x04000044#32 = .ok (.csrxchg 4#5 2#5 0#14) := by decide

theorem witness_ReservedWordRaisesIne : ∀ r ∈ opcodeRows, r.accepts 0#32 = false := by decide +kernel

/-- `ADD.W r6, r4, r5` at the program counter, the agenda empty. -/
def fetching : State := (start []).withFetchWord 32 0x00101486

theorem witness_StepRunsDecodedInstruction :
    fetching.idle = false ∧ (fetching.csr.ie && fetching.csr.interruptPending) = false ∧
      fetching.fetch = .word 0x00101486#32 ∧ decodeWord 0x00101486#32 = .ok (.addW 6 4 5) ∧
      fetching.agenda = [] ∧ fetching.stale = [] ∧
      ∃ t, exec (.addW 6 4 5) fetching.afterFetch = .next t := by
  refine ⟨by decide, by decide, by decide, by decide, by decide, by decide, _, rfl⟩

/-- R276: IBAR ends every older value of a byte that this core stored to, also after another agent's store; where only the
other agent stored, its old byte stays. -/
theorem test_ibar_ends_what_lies_below_an_own_store :
    let s := externalStore (start []) 0x1C001000 [7]
    after (.stB 5 4 0) (s.setReg 4 0x1C001000) (fun t => after (.ibar 0) t (fun u => u.stale)) = some (some []) ∧
      after (.ibar 0) s (fun u => u.stale) = some [{ addr := 0x1C001000, old := 0, own := false }] := by decide

/-- The same with the core's move named by the agenda, and an old byte elsewhere. -/
def scheduled : State :=
  { fetching with agenda := [.core, .counterTick], stale := [{ addr := 0x1C000200, old := 1, own := true }] }

theorem witness_StepRunsDecodedInstruction_agenda :
    scheduled.idle = false ∧ (scheduled.csr.ie && scheduled.csr.interruptPending) = false ∧
      scheduled.fetch = .word 0x00101486#32 ∧ scheduled.agenda = .core :: [.counterTick] := by
  refine ⟨by decide, by decide, by decide, by decide⟩

/-- The first and the last misaligned byte of a word. -/
theorem witness_FetchReadsMemory_misaligned :
    ({ start [] with pc := 0x1C000101 } : State).pc.toNat % 4 ≠ 0 ∧
      ({ start [] with pc := 0x1C000103 } : State).pc.toNat % 4 ≠ 0 := by decide

/-- In mapped mode with an empty TLB. -/
def unmapped : State := withCsr (start []) fun c => { c with crmd := 0x10 }

theorem unmapped_tlb (i : Fin Config.tlbEntries) (v : BitVec 19) : (unmapped.tlb.get i).hit unmapped.csr.asid v = false := by
  simp [unmapped, withCsr, start, State.reset, Vector.get_eq_getElem, TlbEntry.hit, TlbEntry.invalid]

theorem unmapped_translate (kind : Access) (va : Word) : unmapped.translate kind va = .trapped (.tlbr va) := by
  have h : unmapped.tlbHits (field va 13 19) = [] := tlbHits_eq_nil fun i => unmapped_tlb i _
  have h0 : windowHit unmapped.csr.dmw0 unmapped.csr.plv va = false := by
    simp [windowHit, show unmapped.csr.plv = 0#2 by decide, show bit unmapped.csr.dmw0 0 = false by decide]
  have h1 : windowHit unmapped.csr.dmw1 unmapped.csr.plv va = false := by
    simp [windowHit, show unmapped.csr.plv = 0#2 by decide, show bit unmapped.csr.dmw1 0 = false by decide]
  have hp : ¬(unmapped.csr.plv ≠ 0#2 ∧ bit va 31 = true) := fun h => h.1 (by decide)
  simp only [State.translate, State.translateMapped, State.translateTlb, h, h0, h1, if_neg hp,
    show unmapped.csr.da = false by decide, show unmapped.csr.pg = true by decide]
  simp

theorem witness_FetchReadsMemory_trapped :
    unmapped.pc.toNat % 4 = 0 ∧ unmapped.translate .fetch unmapped.pc = .trapped (.tlbr unmapped.pc) :=
  ⟨by decide, unmapped_translate _ _⟩

/-- The old byte just above the word does not touch it. -/
theorem witness_FetchReadsMemory_word :
    Reaches { fetching with stale := [⟨0x1C000104, 1, true⟩, ⟨0x1C0000FF, 1, true⟩] } .fetch 4 0x1C000100 0x1C000100 0#2 ∧
      ∀ b ∈ [(⟨0x1C000104, 1, true⟩ : StaleByte), ⟨0x1C0000FF, 1, true⟩],
        b.addr < (0x1C000100#32).toNat ∨ (0x1C000100#32).toNat + 4 ≤ b.addr := by
  refine ⟨⟨by decide, by decide, by decide⟩, by decide⟩

theorem witness_StepKeepsInvariant : fetching.inv ∧ ∃ t, step fetching = .next t :=
  ⟨⟨by decide, by decide, by decide, by decide, by decide⟩, _, rfl⟩

/-- A user program, floating point disabled. -/
def user : State := withCsr (start []) fun c => { c with crmd := 0xB, euen := 0 }

theorem witness_UserModeKeepsSystemState :
    user.csr.plv ≠ 0#2 ∧ (∃ t, exec (.addW 6 4 5) user = .next t) ∧ ∃ t, exec .ertn user = .next t :=
  ⟨by decide, ⟨_, rfl⟩, _, rfl⟩

theorem witness_EveryInstructionGoesOn :
    unmapped.csr.da ≠ unmapped.csr.pg ∧ ∀ v, (unmapped.tlbHits v).length ≤ 1 :=
  ⟨by decide, fun v => by rw [tlbHits_eq_nil fun i => unmapped_tlb i v]; decide⟩

theorem witness_TrapEntry (va : Word) :
    (Trap.pil va).isRefill = false ∧ (Trap.ale va).isRefill = false ∧ Trap.int.isRefill = false := ⟨rfl, rfl, rfl⟩

theorem witness_Ertn :
    (start []).csr.plv = 0#2 ∧ (start []).csr.ecode ≠ 0x3F#6 ∧
      (withCsr (start []) fun c => { c with estat := 0x003F0000 }).csr.plv = 0#2 ∧
      (withCsr (start []) fun c => { c with estat := 0x003F0000 }).csr.ecode = 0x3F#6 := by decide

/-- The three privilege levels that are not 0. -/
theorem witness_PrivilegedInUserModeTakesIpe :
    Instr.ertn.unit = .privileged ∧ user.csr.plv = 3#2 ∧
      (withCsr user fun c => { c with crmd := 9 }).csr.plv = 1#2 ∧
      (withCsr user fun c => { c with crmd := 10 }).csr.plv = 2#2 := by decide

theorem witness_FpDisabledTakesFpd : isFloatingPoint (.faddS 0 1 2) = true ∧ user.csr.fpe = false := by decide

theorem witness_MemoryAccessTraps_misaligned :
    memoryAccess (start []) (.fldD 1 4 4) = some (.load, 8, 4#32) ∧ (start []).csr.fpe = true ∧ (4#32).toNat % 8 ≠ 0 ∧
      memoryAccess (start []) (.stH 1 4 0xFFF) = some (.store, 2, 0xFFFFFFFF#32) ∧ (0xFFFFFFFF#32).toNat % 2 ≠ 0 := by
  decide

theorem witness_MemoryAccessTraps_translation :
    memoryAccess unmapped (.ldW 1 4 4) = some (.load, 4, 4#32) ∧ (4#32).toNat % 4 = 0 ∧
      (isFloatingPoint (.ldW 1 4 4) = true → unmapped.csr.fpe = true) ∧
      unmapped.translate .load 4#32 = .trapped (.tlbr 4#32) :=
  ⟨by decide, by decide, by decide, unmapped_translate _ _⟩

/-- An enabled interrupt pending on a running core, none enabled on an idle one, one enabled on an idle one with
interrupts globally disabled. -/
def waiting (crmd estat ecfg : Word) (idle : Bool) : State :=
  withCsr ((start []).setIdle idle) fun c => { c with crmd := crmd, estat := estat, ecfg := ecfg }

theorem witness_InterruptsAndIdle :
    scheduled.agenda = .core :: [.counterTick] ∧
    (waiting 0xC 0x1000 0x1000 false).csr.ie = true ∧
      (waiting 0xC 0x1000 0x1000 false).csr.pending &&& (waiting 0xC 0x1000 0x1000 false).csr.lie ≠ 0#13 ∧
      (waiting 8 0x1000 0x0800 true).idle = true ∧
      (waiting 8 0x1000 0x0800 true).csr.pending &&& (waiting 8 0x1000 0x0800 true).csr.lie = 0#13 ∧
      (waiting 8 1 1 true).idle = true ∧ (waiting 8 1 1 true).csr.ie = false ∧
      (waiting 8 1 1 true).csr.pending &&& (waiting 8 1 1 true).csr.lie ≠ 0#13 := by decide

theorem witness_DivideResults : (start [(5, 1)]).reg 5 ≠ 0#32 ∧ (start [(5, 1)]).reg 6 = 0#32 := by decide

/-- The last aligned address of each size, in direct mode with the unit enabled. -/
theorem witness_Loads :
    (start []).csr.fpe = true ∧
      Reaches (start []) .load 1 (vaddr (start []) 4 0xFFF) 0xFFFFFFFF 0#2 ∧
      Reaches (start []) .load 2 (vaddr (start []) 4 0xFFE) 0xFFFFFFFE 0#2 ∧
      Reaches (start []) .load 4 (vaddr (start []) 4 0xFFC) 0xFFFFFFFC 0#2 ∧
      Reaches (start []) .load 8 (vaddr (start []) 4 0xFF8) 0xFFFFFFF8 0#2 := by
  refine ⟨by decide, ⟨by decide, by decide, by decide⟩, ⟨by decide, by decide, by decide⟩,
    ⟨by decide, by decide, by decide⟩, ⟨by decide, by decide, by decide⟩⟩

theorem witness_StoreBytes :
    (start []).csr.fpe = true ∧
      Reaches (start []) .store 1 (vaddr (start []) 4 0xFFF) 0xFFFFFFFF 0#2 ∧
      Reaches (start []) .store 2 (vaddr (start []) 4 0xFFE) 0xFFFFFFFE 0#2 ∧
      Reaches (start []) .store 4 (vaddr (start []) 4 0xFFC) 0xFFFFFFFC 0#2 ∧
      Reaches (start []) .store 8 (vaddr (start []) 4 0xFF8) 0xFFFFFFF8 0#2 := by
  refine ⟨by decide, ⟨by decide, by decide, by decide⟩, ⟨by decide, by decide, by decide⟩,
    ⟨by decide, by decide, by decide⟩, ⟨by decide, by decide, by decide⟩⟩

/-- Old bytes of this core's own stores, and of another agent's next to the word. -/
theorem witness_HintsAndBarriers :
    ∀ b ∈ [(⟨0x1C000100, 1, true⟩ : StaleByte), ⟨0x1C000104, 1, false⟩],
      b.own = false → b.addr < (0x1C000100#32).toNat ∨ (0x1C000100#32).toNat + 4 ≤ b.addr := by decide

/-- Direct mode with coherent cached data accesses. -/
def cached : State := (withCsr (start []) fun c => { c with crmd := 0x88 }).setLlbit true

theorem witness_LoadLinked :
    Reaches cached .load 4 (vaddr4 cached 4 0x3FFF) 0xFFFFFFFC 1#2 ∧
      Reaches (start []) .load 4 (vaddr4 (start []) 4 0x1FFF) 0x7FFC 0#2 := by
  refine ⟨⟨by decide, by decide, by decide⟩, by decide, by decide, by decide⟩

theorem witness_StoreConditional :
    Reaches cached .store 4 (vaddr4 cached 4 0x3FFF) 0xFFFFFFFC 1#2 ∧ cached.llbit = true ∧
      Reaches (cached.setLlbit false) .store 4 (vaddr4 cached 4 0x3FFF) 0xFFFFFFFC 1#2 ∧
      (cached.setLlbit false).llbit = false ∧
      Reaches (start []) .store 4 (vaddr4 (start []) 4 0x1FFF) 0x7FFC 0#2 := by
  refine ⟨⟨by decide, by decide, by decide⟩, by decide, ⟨by decide, by decide, by decide⟩, by decide,
    by decide, by decide, by decide⟩

/-- Every register holds a pattern that is a signalling NaN in both formats; V is enabled when `fcsr` is 16. -/
def nans (fcsr : Word) : State :=
  { start [] with fpr := Vector.replicate 32 { hi := 0x7FF00000, lo := 0x7F800001 }, fcsr := fcsr }

/-- No signal is enabled when Enables is 0, whatever the operation signals. -/
theorem witness_FpBinaryResults : ∀ p ∈ binaryFpTable,
    (nans 0).csr.fpe = true ∧
      (p.2.2 (currentMode (nans 0)) (patternOf (nans 0) p.2.1 1) (patternOf (nans 0) p.2.1 2)).signals &&&
        field (nans 0).fcsr 0 5 = 0#5 :=
  fun _ _ => ⟨rfl, by rw [show field (nans 0).fcsr 0 5 = 0#5 by decide]; simp⟩

theorem witness_FpFusedResults : ∀ p ∈ fusedFpTable,
    (nans 0).csr.fpe = true ∧
      (fpFma p.2.1 (currentMode (nans 0)) (patternOf (nans 0) p.2.1 1) (patternOf (nans 0) p.2.1 2)
        (if p.2.2.1 then signFlipped p.2.1 (patternOf (nans 0) p.2.1 3) else patternOf (nans 0) p.2.1 3)).signals &&&
        field (nans 0).fcsr 0 5 = 0#5 :=
  fun _ _ => ⟨rfl, by rw [show field (nans 0).fcsr 0 5 = 0#5 by decide]; simp⟩

theorem witness_FpUnaryResults : ∀ p ∈ unaryFpTable,
    (nans 0).csr.fpe = true ∧
      (p.2.2.2 (currentMode (nans 0)) (patternOf (nans 0) p.2.1 1)).signals &&& field (nans 0).fcsr 0 5 = 0#5 :=
  fun _ _ => ⟨rfl, by rw [show field (nans 0).fcsr 0 5 = 0#5 by decide]; simp⟩

theorem witness_FpCompareResults :
    (nans 0).csr.fpe = true ∧ (16#5 &&& field (nans 0).fcsr 0 5 = 0#5) ∧
      (nans 16).csr.fpe = true ∧ 16#5 &&& field (nans 16).fcsr 0 5 ≠ 0#5 ∧
      isSignalling .single (patternOf (nans 16) .single 1) = true ∧
      isSignalling .double (patternOf (nans 16) .double 1) = true := by decide

theorem witness_FpEnabledSignalTakesFpe_binary : ∀ p ∈ binaryFpTable,
    (nans 16).csr.fpe = true ∧
      (p.2.2 (currentMode (nans 16)) (patternOf (nans 16) p.2.1 1) (patternOf (nans 16) p.2.1 2)).signals &&&
        field (nans 16).fcsr 0 5 ≠ 0#5 := by decide

theorem witness_FpEnabledSignalTakesFpe_fused : ∀ p ∈ fusedFpTable,
    (nans 16).csr.fpe = true ∧
      (fpFma p.2.1 (currentMode (nans 16)) (patternOf (nans 16) p.2.1 1) (patternOf (nans 16) p.2.1 2)
        (if p.2.2.1 then signFlipped p.2.1 (patternOf (nans 16) p.2.1 3) else patternOf (nans 16) p.2.1 3)).signals &&&
        field (nans 16).fcsr 0 5 ≠ 0#5 := by decide

theorem witness_FpEnabledSignalTakesFpe_unary :
    (nans 16).csr.fpe = true ∧
      (fpSqrt .single (currentMode (nans 16)) (patternOf (nans 16) .single 1)).signals &&& field (nans 16).fcsr 0 5 ≠ 0#5 ∧
      (fpToInt .double .towardZero (patternOf (nans 16) .double 1)).signals &&& field (nans 16).fcsr 0 5 ≠ 0#5 := by
  decide

theorem witness_StableCounter : ∃ t, exec (.addW 6 4 5) (start []) = .next t := ⟨_, rfl⟩

/-- For the statements about moves, signs, classes and flags, whose one hypothesis this is. -/
theorem witness_fp_enabled : (start []).csr.fpe = true := by decide

theorem witness_FcsrMoves :
    (start []).csr.fpe = true ∧ (0#5).toNat < 4 ∧ (3#5).toNat < 4 ∧ 4 ≤ (4#5).toNat ∧ 4 ≤ (31#5).toNat := by decide

/-- Numbers next to defined ones are undefined. -/
theorem witness_UndefinedCsrs :
    (start []).csr.plv = 0#2 ∧ 0x3#14 ∉ csrReads.map (fun p => p.1) ∧ 0x182#14 ∉ csrReads.map (fun p => p.1) ∧
      0x3FFF#14 ∉ csrReads.map (fun p => p.1) := by decide

/-- Also for the reads of a CSR. -/
theorem witness_CsrWrite : (start []).csr.plv = 0#2 ∧ (start []).csr.reservedZero = true := by decide

theorem witness_CsrExchange :
    (start []).csr.plv = 0#2 ∧ (start []).csr.reservedZero = true ∧ (start [(5, 1)]).reg 5 ≠ 0#32 := by decide

theorem witness_CsrWriteActions :
    (start []).csr.plv = 0#2 ∧
      (∀ n ∈ [0x41#14, 0x44#14, 0x60#14, 0x98#14],
        WritesCsr (start [(4, 7)]) (.csrwr 4 n) 4 n 7#32 ∧
          WritesCsr (start [(4, 7), (5, 1)]) (.csrxchg 4 5 n) 4 n
            ((csrValue n (start [(4, 7), (5, 1)]) &&& ~~~1#32) ||| 1#32)) ∧
      (start []).reg 5 = 0#32 :=
  ⟨by decide, fun n _ => ⟨.inl ⟨rfl, by decide⟩, .inr ⟨5, rfl, by decide, by
    rw [show (start [(4, 7), (5, 1)]).reg 5 = 1#32 by decide,
      show (start [(4, 7), (5, 1)]).reg 4 &&& 1#32 = 1#32 by decide]⟩⟩, by decide⟩

/-- A page pair of 4 KiB pages in entry 3, in address space 5, for the virtual pages 0x2000 and 0x3000; every other entry
invalid with the same page size. -/
def paged (page : TlbPage) (crmd : Word) : State :=
  { withCsr (start []) (fun c => { c with crmd := crmd, asid := 5, tlbehi := 0x2000 }) with
    tlb := (Vector.replicate 32 { TlbEntry.invalid with ps := 12 }).set 3
      { e := true, asid := 5, g := false, ps := 12, vppn := 1, page0 := page, page1 := page } }

/-- The page is valid, writable, and open to every privilege level. -/
def openPage : TlbPage := { v := true, d := true, mat := 1, plv := 3, ppn := 0x1C010 }

theorem paged_ps (page : TlbPage) (crmd : Word) (i : Fin Config.tlbEntries) : ((paged page crmd).tlb.get i).ps = 12#6 := by
  by_cases h : i = 3
  · subst h; rfl
  · simp [paged, Vector.get_eq_getElem, show ¬ (3 : Nat) = i.val from fun e => h (Fin.ext e.symm)]

theorem paged_sizes (page : TlbPage) (crmd : Word) : RequiredSizes (paged page crmd) :=
  fun i _ => .inl (paged_ps page crmd i)

theorem paged_matches (page : TlbPage) (crmd : Word) (v : BitVec 19) (i : Fin Config.tlbEntries) :
    Matches ((paged page crmd).tlb.get i) 5#10 v ↔ i = 3 ∧ v = 1#19 := by
  by_cases h : i = 3
  · subst h
    simp only [Matches, show (paged page crmd).tlb.get 3 =
      { e := true, asid := 5, g := false, ps := 12, vppn := 1, page0 := page, page1 := page } from rfl]
    simp [← BitVec.toNat_inj, eq_comm]
  · simp [h, Matches, paged, Vector.get_eq_getElem,
      show ¬ (3 : Nat) = i.val from fun e => h (Fin.ext e.symm), TlbEntry.invalid]

theorem witness_TlbSearch_hit :
    (paged openPage 8).csr.plv = 0#2 ∧ RequiredSizes (paged openPage 8) ∧
      Matches ((paged openPage 8).tlb.get 3) (paged openPage 8).csr.asid (paged openPage 8).csr.vppn ∧
      ∀ j : Fin Config.tlbEntries, Matches ((paged openPage 8).tlb.get j) (paged openPage 8).csr.asid (paged openPage 8).csr.vppn →
        j = 3 :=
  ⟨by decide, paged_sizes _ _, (paged_matches _ _ _ 3).mpr ⟨rfl, by decide⟩,
    fun j h => ((paged_matches openPage 8 _ j).mp h).1⟩

/-- The state of the hit, looking for the next page pair. -/
def missing : State := withCsr (paged openPage 8) fun c => { c with tlbehi := 0x4000 }

theorem witness_TlbSearch_miss :
    missing.csr.plv = 0#2 ∧ RequiredSizes missing ∧
      ∀ i : Fin Config.tlbEntries, ¬ Matches (missing.tlb.get i) missing.csr.asid missing.csr.vppn :=
  ⟨by decide, paged_sizes openPage 8, fun i h => absurd ((paged_matches openPage 8 _ i).mp h).2 (by decide)⟩

theorem witness_TlbReadAndWrite :
    let last := withCsr (start []) fun c => { c with tlbidx := 31 }
    let existing := withCsr (paged openPage 8) fun c => { c with tlbidx := 3 }
    last.csr.plv = 0#2 ∧ (31 : Fin Config.tlbEntries).val = last.csr.index.toNat ∧ (last.tlb.get 31).e = false ∧
      existing.csr.plv = 0#2 ∧ (3 : Fin Config.tlbEntries).val = existing.csr.index.toNat ∧
      (existing.tlb.get 3).e = true :=
  ⟨by decide, by decide, by decide, by decide, by decide, rfl⟩

/-- The TLB right after reset has the required sizes, because none of its entries exists. -/
theorem reset_sizes : RequiredSizes State.reset := fun i h => by
  rw [show (State.reset.tlb.get i).e = false by
    simp [State.reset, Vector.get_eq_getElem, TlbEntry.invalid]] at h
  exact absurd h (by decide)

/-- Right after reset, with operations 0, 4 and 7; and with operation 6 beside an entry that exists. -/
theorem witness_TlbInvalidate :
    State.reset.csr.plv = 0#2 ∧ (0#5).toNat ≤ 6 ∧ ¬ 5 ≤ (4#5).toNat ∧ 6 < (7#5).toNat ∧ RequiredSizes State.reset ∧
      (paged openPage 8).csr.plv = 0#2 ∧ 5 ≤ (6#5).toNat ∧ (6#5).toNat ≤ 6 ∧ RequiredSizes (paged openPage 8) :=
  ⟨by decide, by decide, by decide, by decide, reset_sizes, by decide, by decide, by decide, paged_sizes _ _⟩

/-- An index-type operation, a hit-type one that is mapped, and hit-type ones on caches 0, 2, 3 and 7 that are not. -/
theorem witness_CacopAndIdle :
    (start []).csr.plv = 0#2 ∧ field (zext32 9#5) 3 2 ≠ 2#2 ∧
      (start []).translate .load (vaddr (start []) 4 0) = .mapped 0#32 0#2 ∧
      unmapped.csr.plv = 0#2 ∧
      (∀ code ∈ [16#5, 18#5], field (zext32 code) 3 2 = 2#2 ∧ (field (zext32 code) 0 3).toNat ≤ 2) ∧
      (∀ code ∈ [19#5, 23#5], field (zext32 code) 3 2 = 2#2 ∧ 2 < (field (zext32 code) 0 3).toNat) ∧
      unmapped.translate .load (vaddr unmapped 4 0) = .trapped (.tlbr (vaddr unmapped 4 0)) :=
  ⟨by decide, by decide, by decide, by decide, by decide, by decide, unmapped_translate _ _⟩

theorem witness_Translation_direct : (start []).csr.da = true ∧ (start []).csr.pg = false := by decide

/-- A window of each privilege level that matches, beside one that is enabled for the other level alone. -/
theorem witness_Translation_windows :
    unmapped.csr.da = false ∧ unmapped.csr.pg = true ∧ unmapped.csr.plv = 0#2 ∧
      WindowMatches 0xA0000011 0#2 0xBFFFFFFF ∧ ¬ WindowMatches 0xA0000018 0#2 0xBFFFFFFF ∧
      WindowMatches 0xA0000018 3#2 0xA0000000 ∧ ¬ WindowMatches 0xA0000018 3#2 0x9FFFFFFF := by
  unfold WindowMatches; decide

/-- Mapped mode at PLV3 without windows. -/
theorem witness_Translation_illegal :
    (paged openPage 0x13).csr.da = false ∧ (paged openPage 0x13).csr.pg = true ∧ (paged openPage 0x13).csr.plv = 3#2 ∧
      ¬ WindowMatches (paged openPage 0x13).csr.dmw0 (paged openPage 0x13).csr.plv 0x80000000 ∧
      ¬ WindowMatches (paged openPage 0x13).csr.dmw1 (paged openPage 0x13).csr.plv 0x80000000 ∧
      (0x80000000#32).getLsbD 31 = true ∧ (0x7FFFFFFF#32).getLsbD 31 = false := by
  unfold WindowMatches; decide

theorem witness_Translation_refill :
    RequiredSizes (paged openPage 0x13) ∧
      ∀ i : Fin Config.tlbEntries, ¬ Matches ((paged openPage 0x13).tlb.get i) (paged openPage 0x13).csr.asid (field 0x4000 13 19) :=
  ⟨paged_sizes _ _, fun i h => absurd ((paged_matches openPage 0x13 _ i).mp h).2 (by decide)⟩

/-- One entry matches, for its first and its last byte; the page open, invalid, of PLV0 at PLV3, and clean. -/
theorem witness_Translation_pages : ∀ page ∈ [openPage, { openPage with v := false }, { openPage with plv := 0 },
      { openPage with d := false }], ∀ va ∈ [0x2000#32, 0x3FFF#32],
    RequiredSizes (paged page 0x13) ∧
      Matches ((paged page 0x13).tlb.get 3) (paged page 0x13).csr.asid (field va 13 19) ∧
      (∀ j : Fin Config.tlbEntries, Matches ((paged page 0x13).tlb.get j) (paged page 0x13).csr.asid (field va 13 19) → j = 3) ∧
      ((paged page 0x13).tlb.get 3).page0 = page ∧ ((paged page 0x13).tlb.get 3).page1 = page :=
  fun page _ va hv => ⟨paged_sizes _ _,
    (paged_matches page 0x13 _ 3).mpr ⟨rfl, by
      simp only [List.mem_cons, List.not_mem_nil, or_false] at hv; rcases hv with rfl | rfl <;> decide⟩,
    fun j h => ((paged_matches page 0x13 _ j).mp h).1, rfl, rfl⟩

/-- A running timer. -/
def timing (tcfg tval : Word) : State :=
  withCsr { start [] with timerRunning := true } fun c => { c with tcfg := tcfg, tval := tval }

/-- Off, about to reach 0, at 0 when periodic, at 0 when one-shot. -/
theorem witness_CounterTick :
    (start []).timerRunning = false ∧
      (timing 0x21 1).timerRunning = true ∧ (timing 0x21 1).csr.tval ≠ 0#32 ∧
      (timing 0x23 0).timerRunning = true ∧ (timing 0x23 0).csr.tval = 0#32 ∧
      (timing 0x21 0).timerRunning = true ∧ (timing 0x21 0).csr.tval = 0#32 := by decide

/-- The last of three stored bytes is the first byte of the reserved word; a store up to the last byte of the address space,
and one past it. -/
theorem witness_ExternalStore :
    let s := cached.setLladdr 0x1C001000
    (0x1C000FFE#32).toNat + ([1#8, 2#8, 3#8] : List Byte).length ≤ 2 ^ Config.palen ∧
      (0xFFFFFFFF#32).toNat + ([1#8] : List Byte).length ≤ 2 ^ Config.palen ∧
      2 ^ Config.palen < (0xFFFFFFFF#32).toNat + ([1#8, 2#8] : List Byte).length ∧
      (∃ i, i < ([1#8, 2#8, 3#8] : List Byte).length ∧ ((0x1C000FFE#32).toNat + i) / 4 = s.lladdr.toNat / 4) ∧
      (cached.setLlbit false).llbit = false :=
  ⟨by decide, by decide, by decide, ⟨2, by decide, by decide⟩, by decide⟩

/-- Values without and with overflow, and one that is tiny. -/
theorem witness_RoundingIsCorrect :
    0 < 3 ∧ ¬ Overflows .single .nearestEven ((3 : ℝ) * 2 ^ (-1 : Int)) ∧
      Overflows .single .towardZero (-3 * (2 : ℝ) ^ (127 : Int)) ∧
      TinyAfterRounding .single .towardPositive ((3 : ℝ) * 2 ^ (-150 : Int)) := by
  norm_num [Overflows, TinyAfterRounding, topOf, topUnit, smallestNormal, normalUnit, bias, expBits, fracBits]

/-- The patterns of 1, minus 1, 0 and minus 0 in single format. -/
theorem witness_values :
    valueOf .single 0x3F800000 = some 1 ∧ valueOf .single 0xBF800000 = some (-1) ∧ valueOf .single 0 = some 0 ∧
      valueOf .single 0x80000000 = some 0 := by
  refine ⟨?_, ?_, ?_, ?_⟩ <;>
    norm_num [valueOf, FpVal.toRat, unpack, expField, fracField, signOf, fracBits, expBits, minQuantum, bias, signWeight]

/-- The patterns of plus and minus infinity in single format. -/
theorem witness_infinities :
    unpack .single 0x7F800000 = .inf false ∧ unpack .single 0xFF800000 = .inf true := by decide

/-- For sums and products: 1 + 1 is not 0, 1 + (-1) is. -/
theorem witness_SumsAndProductsAreRounded : ∃ a b c : ℚ,
    valueOf .single 0x3F800000 = some a ∧ valueOf .single 0xBF800000 = some b ∧ valueOf .single 0x3F800000 = some c ∧
      a + c ≠ 0 ∧ a + b = 0 :=
  ⟨1, -1, 1, witness_values.1, witness_values.2.1, witness_values.1, by norm_num, by norm_num⟩

/-- For infinite operands: infinity times 1 or infinity is infinite; infinity and a zero of either sign. -/
theorem witness_SumsAndProductsAreRounded_infinite :
    ProductInfinite .single 0x7F800000 0x3F800000 ∧ ProductInfinite .single 0x3F800000 0xFF800000 ∧
      ProductInfinite .single 0xFF800000 0x7F800000 ∧ InfinityTimesZero .single 0x7F800000 0x80000000 ∧
      InfinityTimesZero .single 0 0xFF800000 ∧ isNan .single 0x3F800000 = false ∧
      valueOf .single 0x3F800000 ≠ none := by
  have h1 : NotZero .single 0x3F800000 := ⟨by decide, by rw [witness_values.1]; norm_num⟩
  have h2 : NotZero .single 0x7F800000 := ⟨by decide, by simp [valueOf, witness_infinities.1, FpVal.toRat]⟩
  exact ⟨.inl ⟨⟨_, witness_infinities.1⟩, h1⟩, .inr ⟨h1, _, witness_infinities.2⟩,
    .inl ⟨⟨_, witness_infinities.2⟩, h2⟩, .inl ⟨⟨_, witness_infinities.1⟩, witness_values.2.2.2⟩,
    .inr ⟨witness_values.2.2.1, _, witness_infinities.2⟩, by decide, by rw [witness_values.1]; simp⟩

/-- For quotients and roots: each sign of `a`, and `b` zero and not. -/
theorem witness_QuotientsAndRootsAreRounded : ∃ a b c d : ℚ,
    valueOf .single 0x3F800000 = some a ∧ valueOf .single 0xBF800000 = some b ∧ valueOf .single 0 = some c ∧
      valueOf .single 0x80000000 = some d ∧ 0 < a ∧ a ≠ 0 ∧ b ≠ 0 ∧ b < 0 ∧ c = 0 ∧ d = 0 :=
  ⟨1, -1, 0, 0, witness_values.1, witness_values.2.1, witness_values.2.2.1, witness_values.2.2.2, by norm_num,
    by norm_num, by norm_num, by norm_num, rfl, rfl⟩

theorem witness_CompareIsTheOrder :
    (∃ a b : ℚ, valueOf .single 0x3F800000 = some a ∧ valueOf .single 0xBF800000 = some b) ∧
      unpack .single 0xFF800000 = .inf true ∧ unpack .single 0x7F800000 = .inf false ∧
      isNan .single 0x7FC00000 = true :=
  ⟨⟨1, -1, witness_values.1, witness_values.2.1⟩, by decide, by decide, by decide⟩

theorem witness_ConvertToIntegerIsCorrect :
    valueOf .single 0x7F800000 = none ∧ valueOf .single 0x3F800000 = some 1 :=
  ⟨rfl, witness_values.1⟩

theorem witness_NanOperandsAndMaxMin :
    isSignalling .single 0x7F800001 = true ∧ isQuiet .single 0x7FC00000 = true ∧ isNan .single 0x3F800000 = false ∧
      fpCompare .single 0xBF800000 0x3F800000 = .lt ∧ fpCompare .single 0x3F800000 0xBF800000 = .gt ∧
      ∃ a b c : ℚ, valueOf .single 0x3F800000 = some a ∧ valueOf .single 0xBF800000 = some b ∧ valueOf .single 0 = some c ∧
        |c| < |a| ∧ |a| = |b| ∧ b < a :=
  ⟨by decide, by decide, by decide, by decide, by decide, 1, -1, 0, witness_values.1, witness_values.2.1,
    witness_values.2.2.1, by norm_num, by norm_num, by norm_num⟩

/-- For the fused operations: a quiet addend beside infinity times zero, and beside 1 times 1. -/
theorem witness_NanOperandsAndMaxMin_fused :
    isQuiet .single 0x7FC00000 = true ∧ isSignalling .single 0x7FC00000 = false ∧
      isSignalling .single 0x7F800000 = false ∧ isSignalling .single 0 = false ∧
      InfinityTimesZero .single 0x7F800000 0 ∧ ¬ InfinityTimesZero .single 0x3F800000 0x3F800000 := by
  refine ⟨by decide, by decide, by decide, by decide, .inl ⟨⟨_, witness_infinities.1⟩, witness_values.2.2.1⟩, ?_⟩
  rintro (⟨-, h⟩ | ⟨h, -⟩) <;> rw [witness_values.1] at h <;> norm_num at h

end Sys2Proof.Tests
end

section
/-! SUPPORT. What a core step does in each of its cases, how the CSRs read after trap entry and after an interrupt line
takes a level; and the statements O6 and O20, which are about the step. -/

namespace Sys2Proof.Machine

/-! ### Fetching and running -/

/-- A fetch does not look at what the other agents are going to do. -/
@[simp] theorem State.fetch_withAgenda (s : State) (l : List AgentMove) :
    State.fetch { s with agenda := l } = s.fetch := rfl

theorem fetchAndRun_word {s : State} {w : Word} {i : Instr} (hf : s.fetch = .word w) (hd : decodeWord w = .ok i) :
    fetchAndRun s = exec i s.afterFetch := by
  simp only [fetchAndRun, hf, runWord_ok hd]

/-! ### The start of a core step (R443, R472, R481) -/

theorem Csrs.interruptPending_eq_true_iff (c : Csrs) : c.interruptPending = true ↔ c.pending &&& c.lie ≠ 0#13 := by
  simp [Csrs.interruptPending]

theorem Csrs.interruptPending_eq_false_iff (c : Csrs) : c.interruptPending = false ↔ c.pending &&& c.lie = 0#13 := by
  simp [Csrs.interruptPending]

theorem State.setIdle_eq_self {s : State} {b : Bool} (h : s.idle = b) : s.setIdle b = s := by
  subst h
  rfl

/-- IDLE goes on waiting (R443). -/
theorem coreStep_of_waiting {s : State} (hi : s.idle = true) (hp : s.csr.interruptPending = false) :
    coreStep s = .next s := by
  simp [coreStep, hi, hp]

/-- A pending enabled interrupt comes before the fetch, and ends the wait of an idle core (R472, R481). -/
theorem coreStep_of_interrupt {s : State} (he : s.csr.ie = true) (hp : s.csr.interruptPending = true) :
    coreStep s = .next ((s.setIdle false).takeTrap .int) := by
  simp [coreStep, activeStep, raise, he, hp]

/-- Where no interrupt is taken and the wait, if any, is over, the core fetches and runs. -/
theorem coreStep_of_no_interrupt {s : State} (hw : s.idle = true → s.csr.interruptPending = true)
    (h : (s.csr.ie && s.csr.interruptPending) = false) : coreStep s = fetchAndRun (s.setIdle false) := by
  have hgo : (s.idle && !s.csr.interruptPending) = false := by
    cases hi : s.idle with
    | false => rfl
    | true => simp [hw hi]
  simp [coreStep, activeStep, hgo, h]

/-- A running core that takes no interrupt runs the instruction its fetch decodes to (R8). -/
theorem coreStep_of_word {s : State} {w : Word} {i : Instr} (hi : s.idle = false)
    (hp : (s.csr.ie && s.csr.interruptPending) = false) (hf : s.fetch = .word w) (hd : decodeWord w = .ok i) :
    coreStep s = exec i s.afterFetch := by
  rw [coreStep_of_no_interrupt (by simp [hi]) hp, State.setIdle_eq_self hi, fetchAndRun_word hf hd]

/-! ### The step by the agenda (R7) -/

theorem step_of_cons {s : State} {m : AgentMove} {rest : List AgentMove} (h : s.agenda = m :: rest) :
    step s = agentStep m { s with agenda := rest } := by
  simp only [step, h]

theorem step_of_nil {s t : State} (h : s.agenda = []) (hc : coreStep s = .next t) : step s = .next (counterTick t) := by
  simp only [step, h, coreStepAndTick, hc]

/-! ### ESTAT after trap entry (R490) -/

@[simp] theorem Csrs.enter_ecode (c : Csrs) (e : Trap) (pc : Word) : (c.enter e pc).ecode = e.ecode :=
  calc field (setField (setField c.estat 16 e.ecode) 22 e.esubcode) 16 6
      = field (setField c.estat 16 e.ecode) 16 6 := field_setField_other _ _ _ _ _ (by decide)
    _ = e.ecode := field_setField_same _ _ _ (by decide)

@[simp] theorem Csrs.enter_esubcode (c : Csrs) (e : Trap) (pc : Word) :
    field (c.enter e pc).estat 22 9 = e.esubcode := field_setField_same _ _ _ (by decide)

/-- Taking an exception leaves the pending interrupts pending. -/
@[simp] theorem Csrs.enter_pending (c : Csrs) (e : Trap) (pc : Word) : (c.enter e pc).pending = c.pending :=
  calc field (setField (setField c.estat 16 e.ecode) 22 e.esubcode) 0 13
      = field (setField c.estat 16 e.ecode) 0 13 := field_setField_other _ _ _ _ _ (by decide)
    _ = field c.estat 0 13 := field_setField_other _ _ _ _ _ (by decide)

/-! ### Interrupt lines (R64, R480) -/

theorem Csrs.setPending_getLsbD (c : Csrs) {k : Nat} (hk : k < 32) (b : Bool) (i : Nat) :
    (c.setPending k b).estat.getLsbD i = if i = k then b else c.estat.getLsbD i := bit_setBit c.estat k b i hk

/-! ### The statements about the step -/

/-- Settles O6: both schedules come down to the one core step, `coreStep_of_word`; the agenda is not read before `exec`. -/
theorem stepRunsDecodedInstruction : Obligations.StepRunsDecodedInstruction := by
  intro s w i hi hp hf hd
  refine ⟨fun rest ha => ?_, fun ha t ht => ?_, afterFetch_of_no_stale⟩
  · have hf' : State.fetch { s with agenda := rest } = .word w := by rw [State.fetch_withAgenda, hf]
    rw [step_of_cons ha]
    exact coreStep_of_word hi hp hf' hd
  · exact step_of_nil ha ((coreStep_of_word hi hp hf hd).trans ht)

/-- Settles O20: one clause per lemma about the start of a core step and about the lines of ESTAT. -/
theorem interruptsAndIdle : Obligations.InterruptsAndIdle := by
  intro s
  refine ⟨fun _ _ => step_of_cons, fun n level => ?hwi, fun level => ?ipi, fun he hp => ?taken, fun hi hp => ?waits,
    fun hi hp he => ?wakes⟩
  case hwi =>
    have hn : 2 + n.toNat < 32 := by have := n.isLt; omega
    exact ⟨_, rfl, s.csr.setPending_getLsbD hn level, rfl⟩
  case ipi => exact ⟨_, rfl, s.csr.setPending_getLsbD (by decide) level, rfl⟩
  case taken =>
    exact ⟨_, coreStep_of_interrupt he (s.csr.interruptPending_eq_true_iff.mpr hp), rfl, rfl,
      Csrs.enter_ecode .., Csrs.enter_esubcode .., Csrs.enter_pending .., rfl, rfl⟩
  case waits => exact coreStep_of_waiting hi (s.csr.interruptPending_eq_false_iff.mpr hp)
  case wakes =>
    have hp' := s.csr.interruptPending_eq_true_iff.mpr hp
    exact coreStep_of_no_interrupt (fun _ => hp') (by simp [he])

end Sys2Proof.Machine
end

section
/-! SUPPORT. What every instruction can answer, said once: a state made from the one before it by the model's updates, or a
refusal of U13 or U14. From it the statements about all instructions at once: O8, O9 and O12. -/

namespace Sys2Proof.Machine

/-! ### Reached by updates -/

/-- The second state is made from the first by the updates that the meanings of instructions are built from. What is written
to FCSR0 or to the CSRs as a whole has reserved bits 0 where the old value has (R36, R46). -/
inductive Updated (s : State) : State → Prop
  | refl : Updated s s
  | setReg {t : State} (r : RegNum) (v : Word) : Updated s t → Updated s (t.setReg r v)
  | setPc {t : State} (p : Word) : Updated s t → Updated s (t.setPc p)
  | setFreg {t : State} (r : RegNum) (v : FReg) : Updated s t → Updated s (t.setFreg r v)
  | setFregLow {t : State} (r : RegNum) (v : Word) : Updated s t → Updated s (t.setFregLow r v)
  | setFlag {t : State} (n : FlagNum) (b : Bool) : Updated s t → Updated s (t.setFlag n b)
  | setFcsr {t : State} (v : Word) : (t.fcsr &&& ~~~fcsrDefined = 0#32 → v &&& ~~~fcsrDefined = 0#32) →
      Updated s t → Updated s (t.setFcsr v)
  | writeFcsr {t : State} (n : BitVec 5) (v : Word) : Updated s t → Updated s (t.writeFcsr n v)
  | setCsr {t : State} (c : Csrs) : (t.csr.reservedZero = true → c.reservedZero = true) → c.tcfg = t.csr.tcfg →
      Updated s t → Updated s (t.setCsr c)
  | writeCsr {t : State} (n : BitVec 14) (v : Word) : Updated s t → Updated s (t.writeCsr n v)
  | setLlbit {t : State} (b : Bool) : Updated s t → Updated s (t.setLlbit b)
  | setLladdr {t : State} (p : PAddr) : Updated s t → Updated s (t.setLladdr p)
  | setTlb {t : State} (l : Vector TlbEntry Config.tlbEntries) : Updated s t → Updated s (t.setTlb l)
  | setIdle {t : State} (b : Bool) : Updated s t → Updated s (t.setIdle b)
  | setStale {t : State} (l : List StaleByte) : Updated s t → Updated s (t.setStale l)
  | drawn {t : State} (n : Nat) : Updated s t → Updated s (t.drawn n)
  | storePhysical {t : State} (p : PAddr) (n v : Nat) : Updated s t → Updated s (t.storePhysical p n v)
  | takeTrap {t : State} (e : Trap) : Updated s t → Updated s (t.takeTrap e)
  | returnFromTrap {t : State} : Updated s t → Updated s t.returnFromTrap

theorem Updated.advance {s t : State} (h : Updated s t) : Updated s t.advance := h.setPc _

theorem Updated.setFpResult {s t : State} (f : FpFormat) (r : RegNum) (bits : Nat) (h : Updated s t) :
    Updated s (t.setFpResult f r bits) := by
  cases f with
  | single => exact h.setFregLow _ _
  | double => exact h.setFreg _ _

theorem Updated.storeIf {s t : State} (doit : Bool) (pa : PAddr) (v : Word) (h : Updated s t) :
    Updated s (storeIf doit pa v t) := by
  cases doit with
  | false => exact h
  | true => exact h.storePhysical _ _ _

/-- Every update keeps the invariant. -/
theorem Updated.inv {s t : State} (h : Updated s t) (hs : s.inv) : t.inv := by
  induction h with
  | refl => exact hs
  | setReg r v _ ih => exact State.inv_setReg r v ih
  | setPc p _ ih => exact State.inv_setPc p ih
  | setFreg r v _ ih => exact State.inv_setFreg r v ih
  | setFregLow r v _ ih => exact State.inv_setFregLow r v ih
  | setFlag n b _ ih => exact State.inv_setFlag n b ih
  | setFcsr v hv _ ih =>
    obtain ⟨-, -, hf, -, -⟩ := id ih
    exact State.inv_setFcsr v (hv hf) ih
  | writeFcsr n v _ ih => exact State.inv_writeFcsr n v ih
  | setCsr c hc ht _ ih =>
    obtain ⟨-, -, -, hr, -⟩ := id ih
    exact State.inv_setCsr c (hc hr) ht ih
  | writeCsr n v _ ih => exact State.inv_writeCsr n v ih
  | setLlbit b _ ih => exact State.inv_setLlbit b ih
  | setLladdr p _ ih => exact State.inv_setLladdr p ih
  | setTlb l _ ih => exact State.inv_setTlb l ih
  | setIdle b _ ih => exact State.inv_setIdle b ih
  | setStale l _ ih => exact State.inv_setStale l ih
  | drawn n _ ih => exact State.inv_drawn n ih
  | storePhysical p n v _ ih => exact State.inv_storePhysical p n v ih
  | takeTrap e _ ih => exact State.inv_takeTrap e ih
  | returnFromTrap _ ih => exact State.inv_returnFromTrap ih

/-! ### What an instruction answers -/

/-- Why the model refuses an instruction: a translation that the spec leaves undefined (U13, U14), or TLBSRCH with more
than one match (U13). -/
def Refuses (s : State) (r : Refusal) : Prop :=
  (∃ kind va, s.translate kind va = .refused r) ∨ (r = .tlbMultipleHit ∧ 1 < (s.tlbHits s.csr.vppn).length)

/-- A state reached by updates, or a refusal that has a reason. No fault. -/
inductive Answers (s : State) : Result → Prop
  | next {t : State} : Updated s t → Answers s (.next t)
  | refused {r : Refusal} : Refuses s r → Answers s (.refused r)

theorem answers_raise (e : Trap) (s : State) : Answers s (raise e s) := .next (.takeTrap e .refl)

theorem answers_produce (rd : RegNum) (v : Word) (s : State) : Answers s (produce rd v s) :=
  .next (Updated.refl.setReg rd v).advance

theorem answers_branchIf {n : Nat} (taken : Bool) (offs : BitVec n) (s : State) :
    Answers s (.next (s.branchIf taken offs)) := .next (.setPc _ .refl)

theorem answers_whenPrivileged {s : State} {k : Result} (h : Answers s k) : Answers s (whenPrivileged s k) := by
  unfold whenPrivileged
  split
  · exact h
  · exact answers_raise _ _

theorem answers_whenFpEnabled {s : State} {k : Result} (h : Answers s k) : Answers s (whenFpEnabled s k) := by
  unfold whenFpEnabled
  split
  · exact h
  · exact answers_raise _ _

theorem answers_fpComplete (sig : Signals) {s : State} {write : State → State}
    (hw : ∀ t, Updated s t → Updated s (write t)) : Answers s (fpComplete sig s write) := by
  by_cases h : sig &&& s.enables = 0#5
  · rw [fpComplete_quiet h]
    exact .next (hw _ (.setFcsr _ (fcsrAccrued_reserved sig) .refl)).advance
  · rw [fpComplete_trap h]
    exact .next (.takeTrap _ (.setFcsr _ (fcsrWithCause_reserved sig) .refl))

theorem answers_fpCompute (f : FpFormat) (fd : RegNum) (r : FpResult) (s : State) : Answers s (fpCompute f fd r s) :=
  answers_whenFpEnabled (answers_fpComplete _ fun _ ht => ht.setFpResult f fd r.bits)

theorem answers_fpCopy (f : FpFormat) (fd : RegNum) (bits : Nat) (s : State) : Answers s (fpCopy f fd bits s) :=
  answers_whenFpEnabled (.next (Updated.refl.setFpResult f fd bits).advance)

theorem answers_fpCompareFlag (f : FpFormat) (cond : BitVec 5) (cd : FlagNum) (fj fk : RegNum) (s : State) :
    Answers s (fpCompareFlag f cond cd fj fk s) :=
  answers_whenFpEnabled (answers_fpComplete _ fun _ ht => ht.setFlag cd _)

/-- Every physical address is RAM in the memory map of `Config` (R106, log 7). -/
theorem regionKindAt_eq_ram (pa : PAddr) : regionKindAt pa.toNat = some .ram := by
  have h : pa.toNat < 2 ^ Config.palen := pa.isLt
  simp [regionKindAt, Config.memoryMap, h]

theorem answers_accessing (kind : Access) (n : Nat) (va : Word) {s : State} {k : PAddr → BitVec 2 → Result}
    (hk : ∀ pa mat, Answers s (k pa mat)) : Answers s (accessing kind n va s k) := by
  by_cases ha : va.toNat % n = 0
  · cases ht : s.translate kind va with
    | mapped pa mat =>
      rw [accessing_mapped ha ht (regionKindAt_eq_ram pa)]
      exact hk pa mat
    | trapped e =>
      rw [accessing_trapped ha ht]
      exact answers_raise e s
    | refused r =>
      simp only [accessing, ha, ht, ne_eq, not_true_eq_false, if_false]
      exact .refused (.inl ⟨kind, va, ht⟩)
  · rw [accessing_misaligned ha]
    exact answers_raise _ s

theorem answers_reading (n : Nat) (va : Word) {s : State} {k : Nat → State} (hk : ∀ v, Updated s (k v)) :
    Answers s (reading n va s k) := answers_accessing _ _ _ fun _ _ => .next (hk _)

theorem answers_writing (n : Nat) (va : Word) (v : Nat) (s : State) : Answers s (writing n va v s) :=
  answers_accessing _ _ _ fun _ _ => .next (Updated.refl.storePhysical _ _ _).advance

theorem answers_loadReg (n : Nat) (rd : RegNum) (va : Word) (ext : Nat → Word) (s : State) :
    Answers s (loadReg n rd va ext s) := answers_reading _ _ fun _ => (Updated.refl.setReg _ _).advance

theorem answers_llW (rd rj : RegNum) (si14 : BitVec 14) (s : State) : Answers s (execLlW rd rj si14 s) := by
  refine answers_accessing _ _ _ fun pa mat => .next ?_
  split
  · exact (((Updated.refl.setReg _ _).setLlbit _).setLladdr _).advance
  · exact ((((Updated.refl.setReg _ _).setLlbit _).setLladdr _).drawn _).advance

theorem answers_scW (rd rj : RegNum) (si14 : BitVec 14) (s : State) : Answers s (execScW rd rj si14 s) := by
  refine answers_accessing _ _ _ fun pa mat => .next ?_
  split
  · exact (((Updated.refl.storeIf _ _ _).setReg _ _).setLlbit _).advance
  · exact ((((Updated.refl.storeIf _ _ _).setReg _ _).setLlbit _).drawn _).advance

theorem Updated.swapCsr (rd : RegNum) (n : BitVec 14) (v : Word) (s : State) : Updated s (swapCsr rd n v s) :=
  ((Updated.refl.writeCsr n v).setReg _ _).advance

theorem answers_csrxchg (rd rj : RegNum) (n : BitVec 14) (s : State) : Answers s (execCsrxchg rd rj n s) := by
  refine answers_whenPrivileged ?_
  split
  · exact answers_produce _ _ _
  · exact .next (.swapCsr _ _ _ _)

theorem answers_cacop (code : BitVec 5) (rj : RegNum) (si12 : BitVec 12) (s : State) :
    Answers s (execCacop code rj si12 s) := by
  refine answers_whenPrivileged ?_
  split
  · split
    · exact .next Updated.refl.advance
    · exact answers_raise _ _
    · next ht => exact .refused (.inl ⟨_, _, ht⟩)
  · split
    · exact .next Updated.refl.advance
    · exact .next Updated.refl.advance

/-- TLBIDX may be replaced where only its writable bits differ (R68). -/
theorem Csrs.reservedZero_withTlbidx {c : Csrs} {w : Word}
    (hw : c.tlbidx &&& ~~~tlbidxWritable = 0#32 → w &&& ~~~tlbidxWritable = 0#32) (h : c.reservedZero = true) :
    Csrs.reservedZero { c with tlbidx := w } = true := by
  rw [Csrs.reservedZero_iff] at *
  obtain ⟨h1, h2, h3, h4, h5, h6, h7, h8⟩ := h
  exact ⟨h1, h2, h3, h4, h5, h6, hw h7, h8⟩

theorem tlbidxAfterHit_reserved (i : Fin Config.tlbEntries) {w : Word} (h : w &&& ~~~tlbidxWritable = 0#32) :
    tlbidxAfterHit w i &&& ~~~tlbidxWritable = 0#32 :=
  setBit_reserved _ _ (setField_reserved _ _ h (by decide)) (by decide)

theorem answers_tlbsrch (s : State) : Answers s (execTlbsrch s) := by
  refine answers_whenPrivileged ?_
  split
  · exact .next (Updated.setCsr _
      (Csrs.reservedZero_withTlbidx fun hw => setBit_reserved _ _ hw (by decide)) rfl .refl).advance
  · exact .next (Updated.setCsr _ (Csrs.reservedZero_withTlbidx (tlbidxAfterHit_reserved _)) rfl .refl).advance
  · next hl => exact .refused (.inr ⟨rfl, by simp [hl]⟩)

/-- Every Index names an entry (log 3), so U5 cannot arise. -/
theorem answers_atTlbIndex {s : State} {k : Fin Config.tlbEntries → Result} (hk : ∀ i, Answers s (k i)) :
    Answers s (atTlbIndex s k) := by
  rw [atTlbIndex_of_lt (show s.csr.index.toNat < 32 from s.csr.index.isLt)]
  exact hk _

theorem Csrs.readTlbEntry_tcfg (c : Csrs) (e : TlbEntry) : (c.readTlbEntry e).tcfg = c.tcfg := by
  unfold Csrs.readTlbEntry
  split <;> rfl

theorem answers_tlbrd (s : State) : Answers s (execTlbrd s) :=
  answers_whenPrivileged (answers_atTlbIndex fun _ =>
    .next (Updated.setCsr _ (Csrs.reservedZero_readTlbEntry _) (Csrs.readTlbEntry_tcfg _ _) .refl).advance)

theorem answers_invtlb (op : BitVec 5) (rj rk : RegNum) (s : State) : Answers s (execInvtlb op rj rk s) := by
  refine answers_whenPrivileged ?_
  split
  · exact answers_raise _ _
  · exact .next (Updated.refl.setTlb _).advance

theorem answers_ibar (hint : BitVec 15) (s : State) : Answers s (execIbar hint s) := by
  rw [execIbar, actsAsHint0_ibar, if_pos rfl]
  exact .next (Updated.refl.setStale _).advance

/-- What each instruction can answer, by the form its meaning has. -/
theorem exec_answers (i : Instr) (s : State) : Answers s (exec i s) := by
  cases i with
  | addW | subW | addiW | lu12iW | slt | sltu | slti | sltui | pcaddu12i | mulW | mulhW | mulhWu | divW | divWu | modW
  | modWu | and | or | nor | xor | andi | ori | xori | sllW | srlW | sraW | slliW | srliW | sraiW | rdcntvlW | rdcntvhW
  | rdcntid => exact answers_produce _ _ _
  | beq | bne | blt | bge | bltu | bgeu => exact answers_branchIf _ _ _
  | b => exact .next (.setPc _ .refl)
  | bl | jirl => exact .next (.setPc _ (.setReg _ _ .refl))
  | ldB | ldH | ldW | ldBu | ldHu =>
    unfold exec
    exact answers_loadReg _ _ _ _ _
  | stB | stH | stW =>
    unfold exec
    exact answers_writing _ _ _ _
  | preld | dbar => exact .next Updated.refl.advance
  | llW => exact answers_llW _ _ _ _
  | scW => exact answers_scW _ _ _ _
  | ibar => exact answers_ibar _ _
  | syscall | brk => exact answers_raise _ _
  | faddS | faddD | fsubS | fsubD | fmulS | fmulD | fdivS | fdivD | fmaddS | fmaddD | fmsubS | fmsubD | fnmaddS | fnmaddD
  | fnmsubS | fnmsubD | fmaxS | fmaxD | fminS | fminD | fmaxaS | fmaxaD | fminaS | fminaD | fsqrtS | fsqrtD | frecipS
  | frecipD | frsqrtS | frsqrtD | fcvtSD | fcvtDS | ffintSW | ffintDW | ftintWS | ftintWD | ftintrmWS | ftintrmWD
  | ftintrpWS | ftintrpWD | ftintrzWS | ftintrzWD | ftintrneWS | ftintrneWD => exact answers_fpCompute _ _ _ _
  | fabsS | fabsD | fnegS | fnegD | fcopysignS | fcopysignD | fclassS | fclassD | fmovS => exact answers_fpCopy _ _ _ _
  | fcmpCafS | fcmpCunS | fcmpCeqS | fcmpCueqS | fcmpCltS | fcmpCultS | fcmpCleS | fcmpCuleS | fcmpCneS | fcmpCorS
  | fcmpCuneS | fcmpSafS | fcmpSunS | fcmpSeqS | fcmpSueqS | fcmpSltS | fcmpSultS | fcmpSleS | fcmpSuleS | fcmpSneS
  | fcmpSorS | fcmpSuneS | fcmpCafD | fcmpCunD | fcmpCeqD | fcmpCueqD | fcmpCltD | fcmpCultD | fcmpCleD | fcmpCuleD
  | fcmpCneD | fcmpCorD | fcmpCuneD | fcmpSafD | fcmpSunD | fcmpSeqD | fcmpSueqD | fcmpSltD | fcmpSultD | fcmpSleD
  | fcmpSuleD | fcmpSneD | fcmpSorD | fcmpSuneD => exact answers_fpCompareFlag _ _ _ _ _ _
  | fmovD | fsel | movgr2frhW | movcf2fr => exact answers_whenFpEnabled (.next (Updated.refl.setFreg _ _).advance)
  | movgr2frW => exact answers_whenFpEnabled (.next (Updated.refl.setFregLow _ _).advance)
  | movfr2grS | movfrh2grS | movcf2gr => exact answers_whenFpEnabled (answers_produce _ _ _)
  | movgr2fcsr => exact answers_whenFpEnabled (.next (Updated.refl.writeFcsr _ _).advance)
  | movfcsr2gr => exact answers_whenFpEnabled (.next ((Updated.refl.setReg _ _).drawn _).advance)
  | movfr2cf | movgr2cf => exact answers_whenFpEnabled (.next (Updated.refl.setFlag _ _).advance)
  | bceqz | bcnez => exact answers_whenFpEnabled (answers_branchIf _ _ _)
  | fldS =>
    unfold exec
    exact answers_whenFpEnabled (answers_reading _ _ fun _ => (Updated.refl.setFregLow _ _).advance)
  | fldD =>
    unfold exec
    exact answers_whenFpEnabled (answers_reading _ _ fun _ => (Updated.refl.setFreg _ _).advance)
  | fstS | fstD =>
    unfold exec
    exact answers_whenFpEnabled (answers_writing _ _ _ _)
  | csrrd => exact answers_whenPrivileged (answers_produce _ _ _)
  | csrwr => exact answers_whenPrivileged (.next (.swapCsr _ _ _ _))
  | csrxchg => exact answers_csrxchg _ _ _ _
  | cacop => exact answers_cacop _ _ _ _
  | tlbsrch => exact answers_tlbsrch _
  | tlbrd => exact answers_tlbrd _
  | tlbwr => exact answers_whenPrivileged (answers_atTlbIndex fun _ => .next (Updated.refl.setTlb _).advance)
  | tlbfill => exact answers_whenPrivileged (.next ((Updated.refl.setTlb _).drawn _).advance)
  | invtlb => exact answers_invtlb _ _ _ _
  | ertn => exact answers_whenPrivileged (.next (.returnFromTrap .refl))
  | idle => exact answers_whenPrivileged (.next (.setIdle _ Updated.refl.advance))

theorem exec_updated {i : Instr} {s t : State} (h : exec i s = .next t) : Updated s t := by
  have ha := exec_answers i s
  rw [h] at ha
  cases ha with
  | next hu => exact hu

/-! ### The invariant (R21, R36, R46, R500) -/

/-- One core step: the wait goes on, an interrupt is taken, or what was fetched is run. -/
theorem State.inv_coreStep {s t : State} (hs : s.inv) (h : coreStep s = .next t) : t.inv := by
  have hf : (s.setIdle false).afterFetch.inv := State.inv_afterFetch (State.inv_setIdle _ hs)
  rcases coreStep_next h with rfl | rfl | ⟨i, hx⟩ | ⟨e, rfl⟩
  · exact hs
  · exact State.inv_takeTrap _ (State.inv_setIdle _ hs)
  · exact (exec_updated hx).inv hf
  · exact State.inv_takeTrap _ hf

/-- The move of any agent. -/
theorem State.inv_agentStep {s t : State} {m : AgentMove} (hs : s.inv) (h : agentStep m s = .next t) : t.inv := by
  cases m with
  | core => exact State.inv_coreStep hs h
  | counterTick =>
    cases h
    exact State.inv_counterTick hs
  | externalStore pa bytes =>
    simp only [agentStep] at h
    split at h
    · cases h
      exact State.inv_externalStore pa bytes hs
    · cases h
  | interruptLine n level =>
    cases h
    exact State.inv_interruptLine n level hs
  | ipiLine level =>
    cases h
    exact State.inv_ipiLine level hs
  | spuriousClear =>
    cases h
    exact State.inv_setLlbit false hs
  | reset =>
    cases h
    exact State.inv_resetEvent hs

/-- Settles O8: a step is the move of one agent, or a core step and a tick; an instruction keeps the invariant because it
is made of updates that do, `exec_updated`. -/
theorem stepKeepsInvariant : Obligations.StepKeepsInvariant := by
  intro s t hs h
  rcases step_next h with ⟨-, u, hu, rfl⟩ | ⟨m, rest, -, hm⟩
  · exact State.inv_counterTick (State.inv_coreStep hs hu)
  · have hr : State.inv { s with agenda := rest } := State.inv_congr hs rfl rfl rfl rfl rfl
    exact State.inv_agentStep hr hm

/-- Settles O9: reset stores zeros, CRMD apart, whose one bit is defined. -/
theorem resetHasInvariant : Obligations.ResetHasInvariant :=
  ⟨rfl, by decide, by decide, by decide, fun hr => absurd hr (by decide)⟩

/-! ### Every instruction goes on (R471) -/

/-- The checks on a page refuse nothing. -/
theorem TlbEntry.translate_ne_refused (e : TlbEntry) (kind : Access) (plv : BitVec 2) (va : Word) (r : Refusal) :
    e.translate kind plv va ≠ .refused r := by
  unfold TlbEntry.translate
  repeat' split
  all_goals exact fun h => nomatch h

/-- A lookup is refused only where several entries match (U13). -/
theorem translateTlb_refused {s : State} {kind : Access} {va : Word} {r : Refusal}
    (h : s.translateTlb kind va = .refused r) : 1 < (s.tlbHits (field va 13 19)).length := by
  unfold State.translateTlb at h
  split at h
  · cases h
  · exact absurd h (TlbEntry.translate_ne_refused _ _ _ _ _)
  · next hl => simp [hl]

theorem translateMapped_refused {s : State} {kind : Access} {va : Word} {r : Refusal}
    (h : s.translateMapped kind va = .refused r) : s.translateTlb kind va = .refused r := by
  unfold State.translateMapped at h
  split at h
  · cases h
  · split at h
    · cases h
    · split at h
      · cases h
      · exact h

/-- With one of DA and PG set, a translation is refused only where several entries match (U13, U14). -/
theorem translate_refused {s : State} {kind : Access} {va : Word} {r : Refusal} (hm : s.csr.da ≠ s.csr.pg)
    (h : s.translate kind va = .refused r) : 1 < (s.tlbHits (field va 13 19)).length := by
  have hone : (s.csr.da = true ∧ s.csr.pg = false) ∨ (s.csr.da = false ∧ s.csr.pg = true) := by
    have hpg : s.csr.pg = !s.csr.da := Bool.eq_not.mpr hm.symm
    cases hd : s.csr.da with
    | true => exact .inl ⟨rfl, by rw [hpg, hd]; rfl⟩
    | false => exact .inr ⟨rfl, by rw [hpg, hd]; rfl⟩
  unfold State.translate at h
  split at h
  · cases h
  · next hd =>
    rw [if_pos (hone.resolve_left hd)] at h
    exact translateTlb_refused (translateMapped_refused h)

theorem not_refuses {s : State} (hm : s.csr.da ≠ s.csr.pg) (hl : ∀ vppn, (s.tlbHits vppn).length ≤ 1) (r : Refusal) :
    ¬ Refuses s r := by
  rintro (⟨kind, va, h⟩ | ⟨-, h⟩)
  · exact absurd (translate_refused hm h) (Nat.not_lt.mpr (hl _))
  · exact absurd h (Nat.not_lt.mpr (hl _))

/-- Settles O12: an instruction answers a next state or a refusal with a reason, and under U13 and U14 there is none. -/
theorem everyInstructionGoesOn : Obligations.EveryInstructionGoesOn := by
  intro i s hm hl
  have ha := exec_answers i s
  cases hx : exec i s with
  | next t => exact ⟨t, rfl⟩
  | fault r => rw [hx] at ha; cases ha
  | refused r =>
    rw [hx] at ha
    cases ha with
    | refused hr => exact absurd hr (not_refuses hm hl r)

end Sys2Proof.Machine
end

section
/-! SUPPORT. What the other ways of ending an instruction do to the whole state, in the terms of `Safety.lean`, and the
statements that need no more: O27, O33, O40, O42 and O53. -/

namespace Sys2Proof.Machine

/-! ### Effects -/

theorem setReg_setPc_effect (rd : RegNum) (v p : Word) (s : State) : GprEffect s ((s.setReg rd v).setPc p) rd v p where
  result := State.reg_setReg_same s rd v
  others _ hr := State.reg_setReg_other s hr v
  pc := rfl
  fpr _ := rfl
  flags _ := rfl
  fcsr := rfl
  memory _ := rfl
  stale := rfl
  system := ⟨rfl, rfl, rfl, rfl, rfl, rfl, rfl, rfl⟩

theorem setPc_effect (p : Word) (s : State) : PcEffect s (s.setPc p) p where
  gpr _ := rfl
  pc := rfl
  fpr _ := rfl
  flags _ := rfl
  fcsr := rfl
  memory _ := rfl
  stale := rfl
  system := ⟨rfl, rfl, rfl, rfl, rfl, rfl, rfl, rfl⟩

/-- FCSR0 and a whole floating-point register written. -/
theorem setFreg_effect (w : Word) (fd : RegNum) (v : FReg) (s : State) :
    FprEffect s ((s.setFcsr w).setFreg fd v).advance fd v.lo (some v.hi) w where
  low := by simp [State.freg_setFreg]
  high h hh := by simpa [State.freg_setFreg] using hh
  others r hr := by simp [State.freg_setFreg, hr]
  pc := rfl
  gpr _ := rfl
  flags _ := rfl
  fcsr := rfl
  memory _ := rfl
  stale := rfl
  system := ⟨rfl, rfl, rfl, rfl, rfl, rfl, rfl, rfl⟩

/-- FCSR0 and the low half of a floating-point register written, the high half free (R31). -/
theorem setFregLow_effect (w : Word) (fd : RegNum) (v : Word) (s : State) :
    FprEffect s ((s.setFcsr w).setFregLow fd v).advance fd v none w where
  low := by simp [State.freg_setFregLow]
  high _ hh := nomatch hh
  others r hr := by simp [State.freg_setFregLow, hr]
  pc := rfl
  gpr _ := rfl
  flags _ := rfl
  fcsr := rfl
  memory _ := rfl
  stale := rfl
  system := ⟨rfl, rfl, rfl, rfl, rfl, rfl, rfl, rfl⟩

/-- Settles O27. -/
theorem jumps : Obligations.Jumps := by
  intro rd rj o16 o26 s
  rw [← scaled_eq, ← scaled_eq]
  exact ⟨⟨_, rfl, setPc_effect _ s⟩, ⟨_, rfl, setReg_setPc_effect _ _ _ s⟩, ⟨_, rfl, setReg_setPc_effect _ _ _ s⟩⟩

/-! ### The Stable Counter and the timer (R52, R500) -/

/-- A software write of a CSR changes the CSRs, the timer's hidden bit and LLbit alone (R46). -/
theorem State.writeCsrNamed_frame (s : State) (v : Word) (c : CsrName) : s.writeCsrNamed v c =
    { s with
      csr := (s.writeCsrNamed v c).csr
      timerRunning := (s.writeCsrNamed v c).timerRunning
      llbit := (s.writeCsrNamed v c).llbit } := by
  cases c
  case tcfg => simp only [State.writeCsrNamed, State.writeTcfg]; split <;> rfl
  case ticlr => simp only [State.writeCsrNamed]; split <;> rfl
  all_goals rfl

theorem State.writeCsr_frame (s : State) (n : BitVec 14) (v : Word) : s.writeCsr n v =
    { s with
      csr := (s.writeCsr n v).csr
      timerRunning := (s.writeCsr n v).timerRunning
      llbit := (s.writeCsr n v).llbit } := by
  unfold State.writeCsr
  split
  · exact State.writeCsrNamed_frame s v _
  · rfl

@[simp] theorem State.writeCsr_counter (s : State) (n : BitVec 14) (v : Word) : (s.writeCsr n v).counter = s.counter := by
  rw [State.writeCsr_frame]

@[simp] theorem State.writeFcsr_counter (s : State) (n : BitVec 5) (v : Word) : (s.writeFcsr n v).counter = s.counter := by
  unfold State.writeFcsr
  split <;> rfl

/-- No update that instructions are built from writes the Stable Counter. -/
theorem Updated.counter {s t : State} (h : Updated s t) : t.counter = s.counter := by
  induction h with
  | refl => rfl
  | writeFcsr n v _ ih => exact (State.writeFcsr_counter _ n v).trans ih
  | writeCsr n v _ ih => exact (State.writeCsr_counter _ n v).trans ih
  | _ => assumption

theorem counterTick_counter (s : State) : (counterTick s).counter.toNat = (s.counter.toNat + 1) % 2 ^ 64 :=
  BitVec.toNat_add s.counter 1#64

theorem extractLsb'_low_eq (c : Dword) : c.extractLsb' 0 32 = BitVec.ofNat 32 c.toNat := by
  simp [BitVec.extractLsb']

theorem extractLsb'_high_eq (c : Dword) : c.extractLsb' 32 32 = BitVec.ofNat 32 (c.toNat / 2 ^ 32) := by
  simp [BitVec.extractLsb', Nat.shiftRight_eq_div_pow]

/-- Settles O33: the reads are `produce`, and every instruction is made of updates that leave the counter,
`exec_updated`. -/
theorem stableCounter : Obligations.StableCounter := by
  refine ⟨rfl, counterTick_counter, fun rd s => ?_, fun i s t h => (exec_updated h).counter⟩
  rw [← extractLsb'_low_eq, ← extractLsb'_high_eq]
  exact ⟨produce_effect _ _ _, produce_effect _ _ _⟩

theorem timerTick_of_stopped {s : State} (h : s.timerRunning = false) : s.timerTick = s := if_pos h

theorem timerTick_of_counting {s : State} (hr : s.timerRunning = true) (hv : s.csr.tval ≠ 0#32) :
    s.timerTick = { s with csr := { s.csr with tval := s.csr.tval - 1#32 } } := by
  simp [State.timerTick, hr, hv]

/-- A timer that has run down sets its interrupt, and reloads or stops by TCFG.Periodic. -/
theorem timerTick_of_zero {s : State} (hr : s.timerRunning = true) (hv : s.csr.tval = 0#32) :
    s.timerTick =
      { s with
        csr := { s.csr.setPending 11 true with tval := if bit s.csr.tcfg 1 then timerInitial s.csr.tcfg else 0#32 }
        timerRunning := bit s.csr.tcfg 1 } := by
  by_cases hp : bit s.csr.tcfg 1 = true
  · simp [State.timerTick, hr, hv, hp]
  · simp [State.timerTick, hr, hv, hp, Csrs.setPending]

/-- The timer's tick changes the CSRs and the timer's hidden bit alone. -/
theorem timerTick_frame (s : State) :
    s.timerTick = { s with csr := s.timerTick.csr, timerRunning := s.timerTick.timerRunning } := by
  cases hr : s.timerRunning with
  | false => rw [timerTick_of_stopped hr]
  | true =>
    by_cases hv : s.csr.tval = 0#32
    · rw [timerTick_of_zero hr hv]
    · rw [timerTick_of_counting hr hv]

/-- Settles O53: one clause per case of the timer, `timerTick_of_stopped` and following. -/
theorem counterTick_spec : Obligations.CounterTick := by
  intro s t
  have hcsr : t.csr = s.timerTick.csr := rfl
  have hrun : t.timerRunning = s.timerTick.timerRunning := rfl
  refine ⟨counterTick_counter s, fun hr => ?stopped, fun hr hv => ?counting, fun hr hv => ?zero, ?frame⟩
  case stopped =>
    rw [hcsr, hrun, timerTick_of_stopped hr]
    exact ⟨rfl, hr⟩
  case counting =>
    rw [hcsr, hrun, timerTick_of_counting hr hv]
    exact ⟨rfl, hr⟩
  case zero =>
    rw [hcsr, hrun, timerTick_of_zero hr hv]
    exact ⟨fun i _ => s.csr.setPending_getLsbD (by decide) true i, rfl, rfl, rfl⟩
  case frame => exact congrArg (fun u => { u with counter := s.counter + 1#64 }) (timerTick_frame s)

/-! ### Moves between registers (R390 to R398) -/

/-- Settles O40: with the unit enabled each move is one register write, FCSR0 left as it was. -/
theorem fpMoves : Obligations.FpMoves := by
  intro fd fj fk rd rj ca s hf
  have hfreg (v : FReg) : ∃ t, whenFpEnabled s (.next (s.setFreg fd v).advance) = .next t ∧
      FprEffect s t fd v.lo (some v.hi) s.fcsr := ⟨_, whenFpEnabled_yes hf, setFreg_effect s.fcsr fd v s⟩
  have hlow (v : Word) : ∃ t, whenFpEnabled s (.next (s.setFregLow fd v).advance) = .next t ∧
      FprEffect s t fd v none s.fcsr := ⟨_, whenFpEnabled_yes hf, setFregLow_effect s.fcsr fd v s⟩
  have hgpr (v : Word) : ∃ t, whenFpEnabled s (produce rd v s) = .next t ∧ GprEffect s t rd v (s.pc + 4#32) :=
    ⟨_, whenFpEnabled_yes hf, setReg_setPc_effect rd v _ s⟩
  refine ⟨?fmovS, hfreg (s.freg fj), ?fsel, hlow (s.reg rj), hfreg ⟨s.reg rj, (s.freg fd).lo⟩, hgpr _, hgpr _⟩
  case fmovS =>
    have hbits : BitVec.ofNat 32 (s.fpOperand .single fj) = (s.freg fj).lo := BitVec.ofNat_toNat 32 _
    rw [← hbits]
    exact hlow _
  case fsel =>
    have h := hfreg (if s.flag ca then s.freg fk else s.freg fj)
    rw [apply_ite FReg.lo, apply_ite FReg.hi] at h
    exact h

theorem fcsrView_of_lt {n : BitVec 5} (h : n.toNat < 4) : fcsrView n = some (fcsrMask n) := by
  revert n
  decide

theorem fcsrView_of_le {n : BitVec 5} (h : 4 ≤ n.toNat) : fcsrView n = none := by
  revert n
  decide

theorem readFcsr_of_lt {n : BitVec 5} (s : State) (h : n.toNat < 4) : s.readFcsr n = s.fcsr &&& fcsrMask n := by
  simp only [State.readFcsr, fcsrView_of_lt h]

theorem writeFcsr_of_lt {n : BitVec 5} (s : State) (v : Word) (h : n.toNat < 4) :
    s.writeFcsr n v = s.setFcsr ((s.fcsr &&& ~~~fcsrMask n) ||| (v &&& fcsrMask n)) := by
  simp only [State.writeFcsr, fcsrView_of_lt h]

theorem writeFcsr_of_le {n : BitVec 5} (s : State) (v : Word) (h : 4 ≤ n.toNat) :
    s.writeFcsr n v = (s.setFcsr (Config.freeWord s.draws &&& fcsrDefined)).drawn 1 := by
  simp only [State.writeFcsr, fcsrView_of_le h]

/-- The count of draws is the model's own: no effect speaks of it. -/
theorem setReg_drawn_effect (rd : RegNum) (v : Word) (k : Nat) (s : State) :
    GprEffect s ((s.setReg rd v).drawn k).advance rd v (s.pc + 4#32) :=
  { setReg_setPc_effect rd v (s.pc + 4#32) s with }

/-- Settles O42: a number below 4 has the view of R36, `fcsrView_of_lt`, and every other one has none. -/
theorem fcsrMoves : Obligations.FcsrMoves := by
  intro n rd rj s hf
  have hwrite : exec (.movgr2fcsr n rj) s = .next (s.writeFcsr n (s.reg rj)).advance := whenFpEnabled_yes hf
  have hread : exec (.movfcsr2gr rd n) s = .next ((s.setReg rd (s.readFcsr n)).drawn (fcsrDraws n)).advance :=
    whenFpEnabled_yes hf
  refine ⟨fun hn => ⟨?write, ?read⟩, fun hn => ⟨?writeAbsent, _, _, hread, setReg_drawn_effect _ _ _ s⟩⟩
  case write =>
    rw [hwrite, writeFcsr_of_lt s _ hn]
    exact ⟨_, rfl, rfl⟩
  case read =>
    rw [hread, ← readFcsr_of_lt s hn]
    exact ⟨_, rfl, setReg_drawn_effect _ _ _ s⟩
  case writeAbsent =>
    rw [hwrite, writeFcsr_of_le s _ hn]
    exact ⟨_, rfl, masked_reserved _ fcsrDefined, rfl⟩

end Sys2Proof.Machine
end

section
/-! SUPPORT. The end of an arithmetic floating-point instruction as an effect, the patterns and the rounding mode it reads,
and the instructions of each table as one computation; the statements O34, O35, O36 and O38. -/

namespace Sys2Proof.Machine

/-! ### FCSR0 (R343) -/

theorem fcsrWithCause_trapped (fcsr : Word) (sig : Signals) : FcsrTrapped fcsr (fcsrWithCause fcsr sig) sig where
  cause := field_setField_same fcsr 24 sig (by decide)
  rest i _ hc := by
    rw [fcsrWithCause, setField_getLsbD, if_neg (by omega)]

theorem fcsrAccrued_after (fcsr : Word) (sig : Signals) : FcsrAfter fcsr (fcsrAccrued fcsr sig) sig where
  cause :=
    calc field (fcsrAccrued fcsr sig) 24 5
        = field (fcsrWithCause fcsr sig) 24 5 := field_setField_other _ _ _ _ _ (by decide)
      _ = sig := field_setField_same fcsr 24 sig (by decide)
  flags := field_setField_same _ _ _ (by decide)
  rest i hi hf hc := by
    rw [fcsrAccrued, setField_getLsbD, if_neg (by omega), (fcsrWithCause_trapped fcsr sig).rest i hi hc]

/-! ### What is computed and how it ends -/

/-- Where no signal is enabled the result is written and the signals accrue. -/
theorem fpCompute_quiet {f : FpFormat} {fd : RegNum} {r : FpResult} {s : State} (hf : s.csr.fpe = true)
    (hq : r.signals &&& field s.fcsr 0 5 = 0#5) : ∃ t, fpCompute f fd r s = .next t ∧ FpResultEffect s t f fd r := by
  refine ⟨_, (whenFpEnabled_yes hf).trans (fpComplete_quiet hq), _, fcsrAccrued_after s.fcsr r.signals, ?_⟩
  cases f with
  | single => exact setFregLow_effect _ fd _ s
  | double => exact setFreg_effect _ fd (.ofDoubleBits r.bits) s

/-- An enabled signal takes FPE, with Cause alone written. -/
theorem fpCompute_trap {f : FpFormat} {fd : RegNum} {r : FpResult} {s : State} (hf : s.csr.fpe = true)
    (hq : r.signals &&& field s.fcsr 0 5 ≠ 0#5) :
    ∃ fcsr, FcsrTrapped s.fcsr fcsr r.signals ∧ fpCompute f fd r s = .next ((s.setFcsr fcsr).takeTrap .fpe) :=
  ⟨_, fcsrWithCause_trapped s.fcsr r.signals, (whenFpEnabled_yes hf).trans (fpComplete_trap hq)⟩

/-! ### What is read (R37, R300) -/

theorem fpOperand_eq_patternOf (s : State) (f : FpFormat) (r : RegNum) : s.fpOperand f r = patternOf s f r := by
  cases f with
  | single => rfl
  | double =>
    show ((s.freg r).hi ++ (s.freg r).lo).toNat = _
    rw [BitVec.toNat_append, ← Nat.shiftLeft_add_eq_or_of_lt (s.freg r).lo.isLt, Nat.shiftLeft_eq]
    rfl

theorem rm_eq_currentMode (s : State) : s.rm = currentMode s := by
  have h : ∀ rm : BitVec 2, roundModeOf rm = if rm = 0#2 then .nearestEven else if rm = 1#2 then .towardZero
      else if rm = 2#2 then .towardPositive else .towardNegative := by decide
  exact h _

/-- The integer a conversion reads is the low half of the register. -/
theorem ofNat_patternOf_single (s : State) (r : RegNum) : BitVec.ofNat 32 (patternOf s .single r) = (s.freg r).lo :=
  BitVec.ofNat_toNat 32 _

/-! ### The sign bit inverted (R344) -/

/-- A pattern from its sign bit, the bits below it and what lies above the format. -/
theorem eq_sign_add_magnitude (f : FpFormat) (x : Nat) :
    x = withSign f (signOf f x) (magnitudeOf f x) + 2 * signWeight f * (x / (2 * signWeight f)) := by
  have hlow : magnitudeOf f x + signWeight f * (x / signWeight f) = x := Nat.mod_add_div x (signWeight f)
  have htop : x / (2 * signWeight f) = x / signWeight f / 2 := by rw [Nat.mul_comm, Nat.div_div_eq_div_mul]
  have hq : x / signWeight f % 2 + 2 * (x / signWeight f / 2) = x / signWeight f := Nat.mod_add_div _ 2
  have hs : (if signOf f x then signWeight f else 0) = signWeight f * (x / signWeight f % 2) := by
    rcases Nat.mod_two_eq_zero_or_one (x / signWeight f) with h | h <;> simp [signOf, h]
  rw [withSign, hs, htop]
  calc x = magnitudeOf f x + signWeight f * (x / signWeight f % 2 + 2 * (x / signWeight f / 2)) := by rw [hq, hlow]
    _ = _ := by ring

/-- Inverting the sign bit in place and building the pattern again with the other sign: the same bits. -/
theorem signFlipped_eq_add (f : FpFormat) (x : Nat) :
    signFlipped f x = fpNeg f x + 2 * signWeight f * (x / (2 * signWeight f)) := by
  have hx := eq_sign_add_magnitude f x
  generalize 2 * signWeight f * (x / (2 * signWeight f)) = top at *
  cases hs : signOf f x with
  | true =>
    simp only [hs, withSign, if_true] at hx
    simp only [signFlipped, fpNeg, withSign, hs, if_true, Bool.not_true, Bool.false_eq_true, if_false]
    omega
  | false =>
    simp only [hs, withSign, Bool.false_eq_true, if_false] at hx
    simp only [signFlipped, fpNeg, withSign, hs, if_true, Bool.not_false, Bool.false_eq_true, if_false]
    omega

theorem signFlipped_mod (f : FpFormat) (x : Nat) :
    signFlipped f x % (2 * signWeight f) = fpNeg f x % (2 * signWeight f) := by
  rw [signFlipped_eq_add, Nat.add_mul_mod_self_left]

theorem signFlipped_eq_fpNeg {f : FpFormat} {x : Nat} (h : x < 2 * signWeight f) : signFlipped f x = fpNeg f x := by
  rw [signFlipped_eq_add, Nat.div_eq_of_lt h, Nat.mul_zero, Nat.add_zero]

theorem patternOf_lt (s : State) (f : FpFormat) (r : RegNum) : patternOf s f r < 2 * signWeight f := by
  cases f with
  | single => exact (s.freg r).lo.isLt
  | double =>
    have hlo := (s.freg r).lo.isLt
    have hhi := (s.freg r).hi.isLt
    show (s.freg r).hi.toNat * 2 ^ 32 + (s.freg r).lo.toNat < 2 ^ 64
    omega

/-- Only the bits of the format are written. -/
theorem FpResultEffect.congr_bits {s t : State} {f : FpFormat} {fd : RegNum} {r : FpResult} {b : Nat}
    (hb : r.bits % (2 * signWeight f) = b % (2 * signWeight f)) (h : FpResultEffect s t f fd r) :
    FpResultEffect s t f fd { r with bits := b } := by
  obtain ⟨fcsr, hfcsr, heff⟩ := h
  refine ⟨fcsr, hfcsr, ?_⟩
  cases f with
  | single =>
    have hlow : BitVec.ofNat 32 b = BitVec.ofNat 32 r.bits := BitVec.eq_of_toNat_eq hb.symm
    exact hlow ▸ heff
  | double =>
    have hb' : r.bits % 2 ^ 64 = b % 2 ^ 64 := hb
    have hlow : BitVec.ofNat 32 b = BitVec.ofNat 32 r.bits :=
      BitVec.eq_of_toNat_eq (show b % 2 ^ 32 = r.bits % 2 ^ 32 by omega)
    have hhigh : BitVec.ofNat 32 (b / 2 ^ 32) = BitVec.ofNat 32 (r.bits / 2 ^ 32) :=
      BitVec.eq_of_toNat_eq (show b / 2 ^ 32 % 2 ^ 32 = r.bits / 2 ^ 32 % 2 ^ 32 by omega)
    show FprEffect s t fd (BitVec.ofNat 32 b) (some (BitVec.ofNat 32 (b / 2 ^ 32))) fcsr
    rw [hlow, hhigh]
    exact heff

/-! ### The tables -/

/-- The two-operand instructions, each its operation in the mode of FCSR.RM. -/
theorem exec_binaryFp : ∀ p ∈ binaryFpTable, ∀ (fd fj fk : RegNum) (s : State), exec (p.1 fd fj fk) s =
    fpCompute p.2.1 fd (p.2.2 (currentMode s) (patternOf s p.2.1 fj) (patternOf s p.2.1 fk)) s := by
  simp only [binaryFpTable, List.forall_mem_cons, List.not_mem_nil, false_implies, implies_true, and_true,
    ← fpOperand_eq_patternOf, ← rm_eq_currentMode]
  and_intros
  all_goals exact fun _ _ _ _ => rfl

/-- The fused instructions, with the addend and the result negated by the table. -/
theorem exec_fusedFp : ∀ p ∈ fusedFpTable, ∀ (fd fj fk fa : RegNum) (s : State), exec (p.1 fd fj fk fa) s =
    let z := if p.2.2.1 then fpNeg p.2.1 (patternOf s p.2.1 fa) else patternOf s p.2.1 fa
    let r := fpFma p.2.1 (currentMode s) (patternOf s p.2.1 fj) (patternOf s p.2.1 fk) z
    fpCompute p.2.1 fd (if p.2.2.2 then negated p.2.1 r else r) s := by
  simp only [fusedFpTable, List.forall_mem_cons, List.not_mem_nil, false_implies, implies_true, and_true,
    ← fpOperand_eq_patternOf, ← rm_eq_currentMode]
  and_intros
  all_goals exact fun _ _ _ _ _ => rfl

/-- The one-operand instructions and the conversions. -/
theorem exec_unaryFp : ∀ p ∈ unaryFpTable, ∀ (fd fj : RegNum) (s : State), exec (p.1 fd fj) s =
    fpCompute p.2.2.1 fd (p.2.2.2 (currentMode s) (patternOf s p.2.1 fj)) s := by
  simp only [unaryFpTable, List.forall_mem_cons, List.not_mem_nil, false_implies, implies_true, and_true,
    ofNat_patternOf_single]
  simp only [← fpOperand_eq_patternOf, ← rm_eq_currentMode]
  and_intros
  all_goals exact fun _ _ _ => rfl

/-! ### The statements -/

/-- Settles O34. -/
theorem fpBinaryResults : Obligations.FpBinaryResults := by
  intro p hp fd fj fk s r hf hq
  rw [exec_binaryFp p hp fd fj fk s]
  exact fpCompute_quiet hf hq

/-- Settles O36. -/
theorem fpUnaryResults : Obligations.FpUnaryResults := by
  intro p hp fd fj s r hf hq
  rw [exec_unaryFp p hp fd fj s]
  exact fpCompute_quiet hf hq

/-- The statements invert the addend's sign bit in place. -/
theorem exec_fusedFp_signFlipped {p : (RegNum → RegNum → RegNum → RegNum → Instr) × FpFormat × Bool × Bool}
    (hp : p ∈ fusedFpTable) (fd fj fk fa : RegNum) (s : State) :
    let z := if p.2.2.1 then signFlipped p.2.1 (patternOf s p.2.1 fa) else patternOf s p.2.1 fa
    let r := fpFma p.2.1 (currentMode s) (patternOf s p.2.1 fj) (patternOf s p.2.1 fk) z
    exec (p.1 fd fj fk fa) s = fpCompute p.2.1 fd (if p.2.2.2 then negated p.2.1 r else r) s := by
  rw [signFlipped_eq_fpNeg (patternOf_lt s p.2.1 fa)]
  exact exec_fusedFp p hp fd fj fk fa s

/-- Inverting a result's sign bit signals nothing of its own (R344). -/
theorem negated_signals (neg : Bool) (f : FpFormat) (r : FpResult) :
    (if neg then negated f r else r).signals = r.signals := by
  cases neg <;> rfl

/-- Settles O35: the written bits of a negated result are those of `signFlipped`, `signFlipped_mod`. -/
theorem fpFusedResults : Obligations.FpFusedResults := by
  intro p hp fd fj fk fa s f z r hf hq
  have hx := exec_fusedFp_signFlipped hp fd fj fk fa s
  have hq' : (if p.2.2.2 then negated f r else r).signals &&& field s.fcsr 0 5 = 0#5 := by rwa [negated_signals]
  obtain ⟨t, ht, heff⟩ := fpCompute_quiet (fd := fd) hf hq'
  refine ⟨t, hx.trans ht, ?_⟩
  cases hn : p.2.2.2 with
  | false => simpa [hn] using heff
  | true =>
    simp only [hn, if_true] at heff ⊢
    exact FpResultEffect.congr_bits (r := negated f r) (signFlipped_mod f r.bits).symm heff

/-- Settles O38: in every table an enabled signal ends the one computation with `fpCompute_trap`. -/
theorem fpEnabledSignalTakesFpe : Obligations.FpEnabledSignalTakesFpe := by
  refine ⟨?binary, ?fused, ?unary⟩
  case binary =>
    intro p hp fd fj fk s r hf hq
    rw [exec_binaryFp p hp fd fj fk s]
    exact fpCompute_trap hf hq
  case fused =>
    intro p hp fd fj fk fa s f z r hf hq
    have hx := exec_fusedFp_signFlipped hp fd fj fk fa s
    have hq' : (if p.2.2.2 then negated f r else r).signals &&& field s.fcsr 0 5 ≠ 0#5 := by rwa [negated_signals]
    obtain ⟨fcsr, hfcsr, ht⟩ := fpCompute_trap (fd := fd) hf hq'
    rw [negated_signals] at hfcsr
    exact ⟨fcsr, hfcsr, hx.trans ht⟩
  case unary =>
    intro p hp fd fj s r hf hq
    rw [exec_unaryFp p hp fd fj s]
    exact fpCompute_trap hf hq

end Sys2Proof.Machine
end

section
/-! SUPPORT. The CSRs by name and by number, what each reads after a software write of each, and the statements about
CSRRD, CSRWR, CSRXCHG and RDCNTID: O43 to O47. -/

namespace Sys2Proof.Machine

/-! ### Names and numbers (R45) -/

theorem csrSet_eq : Config.csrSet = CsrName.all.map CsrName.number := rfl

theorem csrNamed_eq_find (n : BitVec 14) : csrNamed n = CsrName.all.find? (fun c => c.number == n) := by
  unfold csrNamed
  split
  · rfl
  · next h =>
    rw [eq_comm, List.find?_eq_none]
    intro c hc hn
    refine h (List.contains_iff_mem.mpr ?_)
    rw [csrSet_eq, ← eq_of_beq hn]
    exact List.mem_map_of_mem hc

@[simp] theorem csrNamed_number (c : CsrName) : csrNamed c.number = some c := by
  cases c <;> rfl

theorem number_of_csrNamed {n : BitVec 14} {c : CsrName} (h : csrNamed n = some c) : c.number = n := by
  rw [csrNamed_eq_find] at h
  have hn : (c.number == n) = true := List.find?_some (p := fun c : CsrName => c.number == n) h
  exact eq_of_beq hn

theorem readCsr_number (s : State) (c : CsrName) : s.readCsr c.number = s.readCsrNamed c := by
  simp [State.readCsr]

theorem writeCsr_number (s : State) (v : Word) (c : CsrName) : s.writeCsr c.number v = s.writeCsrNamed v c := by
  simp [State.writeCsr]

/-! ### The table of the statements -/

/-- A field at bit 0 leaves the bits above it 0. -/
theorem zext32_reserved {n : Nat} {m : Word} (v : BitVec n) (h : ones 0 n &&& m = 0#32) : zext32 v &&& m = 0#32 := by
  have hv : zext32 v = place v 0 := (BitVec.shiftLeft_zero _).symm
  rw [hv]
  exact place_reserved v 0 h

/-- ASID reads with its width, 10, in ASIDBITS (R71). -/
theorem asid_read (a : BitVec 10) : BitVec.ofNat 32 (a.toNat + 0xA0000) = zext32 a ||| place 10#8 16 := by
  have hz : zext32 a &&& place 10#8 16 = 0#32 := zext32_reserved a (by decide)
  rw [← BitVec.add_eq_or_of_and_eq_zero _ _ hz, BitVec.ofNat_add, BitVec.ofNat_toNat]
  congr 1

theorem llbctl_read (b klo : Bool) : BitVec.ofNat 32 ((if b then 1 else 0) + (if klo then 4 else 0)) =
    place (BitVec.ofBool b) 0 ||| place (BitVec.ofBool klo) 2 := by
  cases b <;> cases klo <;> rfl

/-- The table of the statements, row by row, is what the model reads by name. -/
theorem csrReads_eq : csrReads = CsrName.all.map (fun c => (c.number, fun s => s.readCsrNamed c)) := by
  simp only [csrReads, asid_read, llbctl_read]
  rfl

theorem csrValue_eq_readCsr (n : BitVec 14) (s : State) : csrValue n s = s.readCsr n := by
  unfold csrValue State.readCsr
  rw [csrReads_eq, csrNamed_eq_find, List.find?_map]
  cases hf : CsrName.all.find? (fun c => c.number == n) <;> simp [hf]

theorem csrValue_number (c : CsrName) (s : State) : csrValue c.number s = s.readCsrNamed c := by
  rw [csrValue_eq_readCsr, readCsr_number]

/-- A number outside the table names no CSR (R42). -/
theorem csrNamed_of_undefined {n : BitVec 14} (h : n ∉ csrReads.map (fun p => p.1)) : csrNamed n = none := by
  rw [csrNamed_eq_find, List.find?_eq_none]
  intro c hc hn
  refine h ?_
  rw [csrReads_eq, List.map_map, ← eq_of_beq hn]
  exact List.mem_map_of_mem (f := CsrName.number) hc

/-- Settles O43. -/
theorem csrAndCounterIdReads : Obligations.CsrAndCounterIdReads := by
  intro rd rj n s
  refine ⟨fun hp => ?_, produce_effect rj s.csr.tid s⟩
  rw [csrValue_eq_readCsr]
  obtain ⟨t, ht, heff⟩ := produce_effect rd (s.readCsr n) s
  exact ⟨t, (whenPrivileged_yes hp).trans ht, heff⟩

/-! ### CSRWR and CSRXCHG (R432, R433) -/

theorem exec_csrwr {s : State} (hp : s.csr.plv = 0#2) (rd : RegNum) (n : BitVec 14) :
    exec (.csrwr rd n) s = .next (swapCsr rd n (s.reg rd) s) := whenPrivileged_yes hp

theorem exec_csrxchg {s : State} (hp : s.csr.plv = 0#2) (rd : RegNum) {rj : RegNum} (n : BitVec 14)
    (hm : s.reg rj ≠ 0#32) : exec (.csrxchg rd rj n) s =
      .next (swapCsr rd n (maskedWrite (s.readCsr n) (s.reg rd) (s.reg rj)) s) :=
  (whenPrivileged_yes hp).trans (if_neg hm)

/-- An empty mask reads alone (log 42). -/
theorem exec_csrxchg_empty {s : State} (hp : s.csr.plv = 0#2) (rd : RegNum) {rj : RegNum} (n : BitVec 14)
    (hm : s.reg rj = 0#32) : exec (.csrxchg rd rj n) s = produce rd (s.readCsr n) s :=
  (whenPrivileged_yes hp).trans (if_pos hm)

/-- Whatever is written, the rest of the machine stays as it is. -/
theorem swapCsr_frame (rd : RegNum) (n : BitVec 14) (v : Word) (s : State) : CsrWriteFrame s (swapCsr rd n v s) rd := by
  unfold swapCsr
  rw [State.writeCsr_frame]
  exact ⟨fun r hr => State.reg_setReg_other _ hr _, rfl, fun _ => rfl, fun _ => rfl, rfl, fun _ => rfl, rfl, rfl, rfl, rfl,
    rfl, rfl⟩

theorem swapCsr_result (rd : RegNum) (n : BitVec 14) (v : Word) (s : State) :
    (swapCsr rd n v s).reg rd = if rd = 0#5 then 0#32 else s.readCsr n :=
  State.reg_setReg_same (s.writeCsr n v) rd (s.readCsr n)

/-- Settles O44: a number without a CSR reads 0, and a write of it is none. -/
theorem undefinedCsrs : Obligations.UndefinedCsrs := by
  intro rd rj n s hp hn
  have hnone := csrNamed_of_undefined hn
  have hread : s.readCsr n = 0#32 := by simp only [State.readCsr, hnone]
  have hswap (v : Word) : swapCsr rd n v s = (s.setReg rd 0#32).advance := by
    simp only [swapCsr, hread, State.writeCsr, hnone]
  have heff : GprEffect s (s.setReg rd 0#32).advance rd 0#32 (s.pc + 4#32) := setReg_setPc_effect rd _ _ s
  refine ⟨⟨_, ?_, heff⟩, ⟨_, ?_, heff⟩, ⟨_, ?_, heff⟩⟩
  · exact (whenPrivileged_yes hp).trans (by rw [hread]; rfl)
  · rw [exec_csrwr hp, hswap]
  · by_cases hm : s.reg rj = 0#32
    · rw [exec_csrxchg_empty hp rd n hm, hread]
      rfl
    · rw [exec_csrxchg hp rd n hm, hswap]

/-! ### The fields of a CSR (R46, R60 to R79) -/

/-- The bits that a software write stores; the CSRs of `CsrName.acts` are given the whole word. `csrWrites_eq` ties it to
the table of the statements. -/
def CsrName.writable : CsrName → Word
  | .crmd => crmdWritable
  | .prmd => prmdWritable
  | .euen => euenWritable
  | .ecfg => ecfgWritable
  | .estat => estatWritable
  | .eentry | .tlbrentry => entryWritable
  | .tlbidx => tlbidxWritable
  | .tlbehi => tlbehiWritable
  | .tlbelo0 | .tlbelo1 => tlbeloWritable
  | .asid => ones 0 10
  | .pgdl | .pgdh => pgdWritable
  | .dmw0 | .dmw1 => dmwWritable
  | .pgd | .cpuid | .tval => 0#32
  | .era | .badv | .save0 | .save1 | .save2 | .save3 | .tid | .tcfg | .ticlr | .llbctl | .ctag => BitVec.allOnes 32

/-- The bits that may read as 1: the writable ones, and where there are read-only fields those too. -/
def CsrName.defined : CsrName → Word
  | .estat => estatDefined
  | .asid => ones 0 10 ||| place 10#8 16
  | .pgd | .cpuid | .tval => BitVec.allOnes 32
  | c => c.writable

/-- A software write of the CSR does more than store fields, or stores fields of the implementation's (CTAG). -/
def CsrName.acts : CsrName → Bool
  | .tcfg | .ticlr | .llbctl | .ctag => true
  | _ => false

/-- The masks of the statements are the model's. -/
theorem csrWrites_eq : csrWrites = (CsrName.all.filter (fun c => !c.acts)).map
    (fun c => (c.number, c.writable, c.defined &&& ~~~c.writable)) := by decide

/-- Reserved bits read as 0. -/
theorem readCsrNamed_reserved {s : State} (h : s.csr.reservedZero = true) (c : CsrName) :
    s.readCsrNamed c &&& ~~~c.defined = 0#32 := by
  rw [Csrs.reservedZero_iff] at h
  obtain ⟨h1, h2, h3, h4, h5, h6, h7, h8, h9, h10, h11, h12, h13, h14, h15⟩ := h
  cases c
  case asid =>
    exact or_and_eq_zero (zext32_reserved s.csr.asid (by decide)) (by decide)
  case era | badv | pgd | cpuid | save0 | save1 | save2 | save3 | tid | tcfg | tval | ticlr | llbctl | ctag =>
    simp [CsrName.defined, CsrName.writable]
  all_goals assumption

/-- Storing all of a register whose other bits are 0. -/
theorem stored_of_reserved {a m : Word} (v : Word) (h : a &&& ~~~m = 0#32) : v &&& m = (a &&& ~~~m) ||| (v &&& m) := by
  rw [h, BitVec.zero_or]

theorem asid_stored (a : BitVec 10) (v : Word) : zext32 (field v 0 10) ||| place 10#8 16 =
    ((zext32 a ||| place 10#8 16) &&& ~~~ones 0 10) ||| (v &&& ones 0 10) := by
  apply BitVec.eq_of_getLsbD_eq
  intro i hi
  simp only [zext32, BitVec.getLsbD_or, BitVec.getLsbD_and, BitVec.getLsbD_not, BitVec.getLsbD_setWidth, field_getLsbD,
    ones_getLsbD, place_getLsbD, hi]
  by_cases h : i < 10
  · have h16 : ¬ 16 ≤ i := by omega
    simp [h, h16]
  · have ha : a.getLsbD i = false := BitVec.getLsbD_of_ge _ _ (by omega)
    simp [h, ha]

/-- A CSR read after it was written: the written value in the writable bits, the old one in the others. -/
theorem readCsrNamed_writeCsrNamed_same {s : State} (h : s.csr.reservedZero = true) (v : Word) {c : CsrName}
    (hc : c.acts = false) :
    (s.writeCsrNamed v c).readCsrNamed c = (s.readCsrNamed c &&& ~~~c.writable) ||| (v &&& c.writable) := by
  have hr := readCsrNamed_reserved h c
  cases c
  case asid => exact asid_stored s.csr.asid v
  case estat => rfl
  case tcfg | ticlr | llbctl | ctag => cases hc
  case pgd | cpuid | tval =>
    simp only [State.writeCsrNamed, CsrName.writable, BitVec.not_zero, BitVec.and_allOnes, BitVec.and_zero, BitVec.or_zero]
  case era | badv | save0 | save1 | save2 | save3 | tid => exact BitVec.and_allOnes.symm.trans (stored_of_reserved v hr)
  all_goals exact stored_of_reserved v hr

/-- A read looks at the CSRs and LLbit only. -/
theorem readCsrNamed_congr {s t : State} (hc : t.csr = s.csr) (hl : t.llbit = s.llbit) (c : CsrName) :
    t.readCsrNamed c = s.readCsrNamed c := by
  cases c <;> simp only [State.readCsrNamed, hc, hl]

/-- A CSR read after another one was written is as before; PGD is a view of PGDL, PGDH and BADV (R72). Each write updates
one field and each read looks at its own, so every pair of two registers holds by definition. -/
theorem readCsrNamed_writeCsrNamed_other (s : State) (v : Word) {c d : CsrName} (hc : c.acts = false) (hd : d ≠ c)
    (hview : d = .pgd → c ∉ [.badv, .pgdl, .pgdh]) : (s.writeCsrNamed v c).readCsrNamed d = s.readCsrNamed d := by
  cases c
  case tcfg | ticlr | llbctl | ctag => cases hc
  all_goals cases d
  all_goals first
    | exact absurd rfl hd
    | exact absurd (hview rfl) (by decide)
    | rfl

/-! ### A CSR whose write stores fields (R432, R433) -/

/-- Bit by bit: under the mask the new value, elsewhere the old one. -/
theorem maskedWrite_getLsbD (old v m : Word) (i : Nat) (hi : i < 32) :
    (maskedWrite old v m).getLsbD i = if m.getLsbD i then v.getLsbD i else old.getLsbD i := by
  simp only [maskedWrite, BitVec.getLsbD_or, BitVec.getLsbD_and, BitVec.getLsbD_not, hi, decide_true, Bool.true_and]
  cases m.getLsbD i <;> simp

theorem maskedWrite_self (w m : Word) : maskedWrite w w m = w := by
  apply BitVec.eq_of_getLsbD_eq
  intro i hi
  rw [maskedWrite_getLsbD _ _ _ i hi, ite_self]

/-- The old value of the CSR goes to `rd` and `v` to its writable bits; nothing else changes but the program counter. -/
structure CsrStored (s t : State) (rd : RegNum) (c : CsrName) (v : Word) : Prop where
  result : t.reg rd = if rd = 0#5 then 0#32 else csrValue c.number s
  value : csrValue c.number t = (csrValue c.number s &&& ~~~c.writable) ||| (v &&& c.writable)
  others : ∀ n, n ≠ c.number → (n = 0x1B#14 → c.number ∉ [0x7#14, 0x19#14, 0x1A#14]) → csrValue n t = csrValue n s
  frame : CsrWriteFrame s t rd
  llbit : t.llbit = s.llbit
  timer : t.timerRunning = s.timerRunning

theorem writeCsrNamed_llbit (s : State) (v : Word) {c : CsrName} (hc : c.acts = false) :
    (s.writeCsrNamed v c).llbit = s.llbit := by
  cases c
  case tcfg | ticlr | llbctl | ctag => cases hc
  all_goals rfl

theorem writeCsrNamed_timerRunning (s : State) (v : Word) {c : CsrName} (hc : c.acts = false) :
    (s.writeCsrNamed v c).timerRunning = s.timerRunning := by
  cases c
  case tcfg | ticlr | llbctl | ctag => cases hc
  all_goals rfl

/-- The same by number, the exception being PGD (0x1B) after a write of BADV, PGDL or PGDH. -/
theorem csrValue_writeCsrNamed_other (s : State) (v : Word) {c : CsrName} {n : BitVec 14} (hc : c.acts = false)
    (hn : n ≠ c.number) (hview : n = 0x1B#14 → c.number ∉ [0x7#14, 0x19#14, 0x1A#14]) :
    csrValue n (s.writeCsrNamed v c) = csrValue n s := by
  rw [csrValue_eq_readCsr, csrValue_eq_readCsr]
  unfold State.readCsr
  split
  · next d hd =>
    have hnum := number_of_csrNamed hd
    refine readCsrNamed_writeCsrNamed_other s v hc (fun e => hn (by rw [← hnum, e])) fun e hmem => ?_
    exact hview (by rw [← hnum, e]; rfl) (List.mem_map_of_mem (f := CsrName.number) hmem)
  · rfl

theorem csrValue_congr {s t : State} (hc : t.csr = s.csr) (hl : t.llbit = s.llbit) (n : BitVec 14) :
    csrValue n t = csrValue n s := by
  rw [csrValue_eq_readCsr, csrValue_eq_readCsr]
  unfold State.readCsr
  split
  · exact readCsrNamed_congr hc hl _
  · rfl

theorem swapCsr_csr (rd : RegNum) (c : CsrName) (v : Word) (s : State) :
    (swapCsr rd c.number v s).csr = (s.writeCsrNamed v c).csr := by
  simp [swapCsr, writeCsr_number]

theorem swapCsr_llbit (rd : RegNum) (c : CsrName) (v : Word) (s : State) :
    (swapCsr rd c.number v s).llbit = (s.writeCsrNamed v c).llbit := by
  simp [swapCsr, writeCsr_number]

theorem swapCsr_timerRunning (rd : RegNum) (c : CsrName) (v : Word) (s : State) :
    (swapCsr rd c.number v s).timerRunning = (s.writeCsrNamed v c).timerRunning := by
  simp [swapCsr, writeCsr_number]

theorem swapCsr_stored {s : State} (h : s.csr.reservedZero = true) (rd : RegNum) {c : CsrName} (hc : c.acts = false)
    (v : Word) : CsrStored s (swapCsr rd c.number v s) rd c v := by
  have hval (n : BitVec 14) : csrValue n (swapCsr rd c.number v s) = csrValue n (s.writeCsrNamed v c) :=
    csrValue_congr (swapCsr_csr rd c v s) (swapCsr_llbit rd c v s) n
  refine ⟨?_, ?_, fun n hn hview => ?_, swapCsr_frame rd c.number v s, ?_, ?_⟩
  · rw [swapCsr_result, csrValue_eq_readCsr]
  · rw [hval, csrValue_number, csrValue_number]
    exact readCsrNamed_writeCsrNamed_same h v hc
  · rw [hval]
    exact csrValue_writeCsrNamed_other s v hc hn hview
  · exact (swapCsr_llbit rd c v s).trans (writeCsrNamed_llbit s v hc)
  · exact (swapCsr_timerRunning rd c v s).trans (writeCsrNamed_timerRunning s v hc)

theorem csrValue_setReg_advance (s : State) (rd : RegNum) (v : Word) (n : BitVec 14) :
    csrValue n (s.setReg rd v).advance = csrValue n s :=
  csrValue_congr (s := s) (t := (s.setReg rd v).advance) rfl rfl n

/-- Reading a CSR alone is as if its old value were stored. -/
theorem produce_stored (s : State) (rd : RegNum) (c : CsrName) :
    CsrStored s (s.setReg rd (s.readCsr c.number)).advance rd c (s.readCsr c.number) where
  result := by
    rw [csrValue_eq_readCsr]
    exact State.reg_setReg_same s rd _
  value := by
    rw [csrValue_setReg_advance, csrValue_eq_readCsr]
    exact (maskedWrite_self _ _).symm
  others n _ _ := csrValue_setReg_advance s rd _ n
  frame := ⟨fun r hr => State.reg_setReg_other s hr _, rfl, fun _ => rfl, fun _ => rfl, rfl, fun _ => rfl, rfl, rfl, rfl,
    rfl, rfl, rfl⟩
  llbit := rfl
  timer := rfl

/-- CSRXCHG of such a register, the mask empty or not. -/
theorem csrxchg_stored {s : State} (hp : s.csr.plv = 0#2) (h : s.csr.reservedZero = true) (rd rj : RegNum) {c : CsrName}
    (hc : c.acts = false) : ∃ t, exec (.csrxchg rd rj c.number) s = .next t ∧
      CsrStored s t rd c (maskedWrite (s.readCsr c.number) (s.reg rd) (s.reg rj)) := by
  by_cases hm : s.reg rj = 0#32
  · have hold : maskedWrite (s.readCsr c.number) (s.reg rd) (s.reg rj) = s.readCsr c.number := by
      simp only [maskedWrite, hm, BitVec.not_zero, BitVec.and_allOnes, BitVec.and_zero, BitVec.or_zero]
    rw [hold]
    exact ⟨_, exec_csrxchg_empty hp rd _ hm, produce_stored s rd c⟩
  · exact ⟨_, exec_csrxchg hp rd _ hm, swapCsr_stored h rd hc _⟩

/-- A row of the statements is a CSR with its masks. -/
theorem mem_csrWrites {p : BitVec 14 × Word × Word} (hp : p ∈ csrWrites) :
    ∃ c : CsrName, c.acts = false ∧ p = (c.number, c.writable, c.defined &&& ~~~c.writable) := by
  rw [csrWrites_eq] at hp
  obtain ⟨c, hc, rfl⟩ := List.mem_map.mp hp
  exact ⟨c, by simpa using (List.mem_filter.mp hc).2, rfl⟩

/-- The bits that a write keeps are the read-only ones: all others that are not writable read as 0. -/
theorem kept_eq {s : State} (h : s.csr.reservedZero = true) (c : CsrName) :
    csrValue c.number s &&& (c.defined &&& ~~~c.writable) = csrValue c.number s &&& ~~~c.writable := by
  have hz := readCsrNamed_reserved h c
  rw [csrValue_number]
  generalize s.readCsrNamed c = a at *
  apply BitVec.eq_of_getLsbD_eq
  intro i hi
  have hi' := (and_eq_zero_iff _ _).mp hz i
  simp only [BitVec.getLsbD_and, BitVec.getLsbD_not, hi, decide_true, Bool.true_and, Bool.not_eq_true'] at hi' ⊢
  cases hd : c.defined.getLsbD i with
  | true => simp
  | false => simp [hi' hd]

/-- Settles O45: what `swapCsr_stored` says of the CSR of a row. -/
theorem csrWrite : Obligations.CsrWrite := by
  intro p hp rd s hplv h
  obtain ⟨c, hc, rfl⟩ := mem_csrWrites hp
  have hst := swapCsr_stored h rd hc (s.reg rd)
  refine ⟨_, exec_csrwr hplv rd c.number, hst.result, ?_, hst.others, hst.frame, hst.llbit, hst.timer⟩
  rw [hst.value, kept_eq h]

/-- Settles O46: the mask of rj within the mask of the CSR. -/
theorem csrExchange : Obligations.CsrExchange := by
  intro p hp rd rj s hplv h
  obtain ⟨c, hc, rfl⟩ := mem_csrWrites hp
  obtain ⟨t, ht, hst⟩ := csrxchg_stored hplv h rd rj hc
  refine ⟨t, ht, hst.result, fun i hi => ?_, hst.others, hst.frame, hst.llbit, hst.timer⟩
  have hbit := maskedWrite_getLsbD (csrValue c.number s) (maskedWrite (s.readCsr c.number) (s.reg rd) (s.reg rj))
    c.writable i hi
  rw [hst.value, show _ ||| _ = maskedWrite _ _ _ from rfl, hbit, maskedWrite_getLsbD _ _ _ i hi, csrValue_eq_readCsr]
  cases c.writable.getLsbD i <;> simp

/-! ### The CSRs whose write acts (R76, R77, R79, R500) -/

/-- Both instructions that write a CSR write it in one way. -/
theorem exec_of_writesCsr {s : State} {i : Instr} {rd : RegNum} {n : BitVec 14} {v : Word} (hp : s.csr.plv = 0#2)
    (h : WritesCsr s i rd n v) : exec i s = .next (swapCsr rd n v s) := by
  rcases h with ⟨rfl, rfl⟩ | ⟨rj, rfl, hm, rfl⟩
  · exact exec_csrwr hp rd n
  · rw [exec_csrxchg hp rd n hm, csrValue_eq_readCsr]
    rfl

/-- The timer starts from a multiple of four (R76). -/
theorem timerInitial_eq (v : Word) : timerInitial v = BitVec.ofNat 32 (v.toNat / 4 * 4) := by
  have hshift : timerInitial v = (v >>> 2) <<< 2 := by
    apply BitVec.eq_of_getLsbD_eq
    intro i hi
    show (v &&& ~~~ones 0 2).getLsbD i = _
    simp only [BitVec.getLsbD_and, BitVec.getLsbD_not, ones_getLsbD, BitVec.getLsbD_shiftLeft,
      BitVec.getLsbD_ushiftRight, hi]
    by_cases h : i < 2
    · simp [h]
    · have h2 : 2 + (i - 2) = i := by omega
      simp [h, h2]
  rw [hshift]
  apply BitVec.eq_of_toNat_eq
  simp [Nat.shiftRight_eq_div_pow, Nat.shiftLeft_eq]

/-- TCFG with En loads the timer and starts it, without En stops it (R76, R500). -/
theorem writeTcfg_eq (s : State) (v : Word) : s.writeTcfg v =
    { s with
      csr := { s.csr with tcfg := v, tval := if v.getLsbD 0 then BitVec.ofNat 32 (v.toNat / 4 * 4) else s.csr.tval }
      timerRunning := v.getLsbD 0 } := by
  rw [← timerInitial_eq]
  by_cases h : v.getLsbD 0 = true
  · rw [if_pos h, h]
    exact if_pos h
  · rw [if_neg h, Bool.eq_false_of_not_eq_true h]
    exact if_neg h

/-- A 1 in TICLR.CLR clears the timer interrupt, bit 11 of ESTAT, and TICLR does nothing else (R77). -/
theorem writeTiclr_eq (s : State) (v : Word) : s.writeCsrNamed v .ticlr =
    s.setCsr (if v.getLsbD 0 then s.csr.setPending 11 false else s.csr) := by
  by_cases h : v.getLsbD 0 = true
  · rw [if_pos h]
    exact if_pos h
  · rw [if_neg h]
    exact if_neg h

theorem cleared_estat (c : Csrs) (b : Bool) (k : Nat) : (if b then c.setPending 11 false else c).estat.getLsbD k =
    if k = 11 ∧ b = true then false else c.estat.getLsbD k := by
  cases b with
  | true => simpa using c.setPending_getLsbD (by decide) false k
  | false => simp

theorem cleared_eq (c : Csrs) (b : Bool) : (if b then c.setPending 11 false else c) =
    { c with estat := (if b then c.setPending 11 false else c).estat } := by
  cases b <;> rfl

/-- A 1 in LLBCTL.WCLLB clears LLbit (R272). -/
theorem writeLlbctl_llbit (s : State) (v : Word) :
    (s.writeLlbctl v).llbit = if v.getLsbD 1 then false else s.llbit := by
  show (s.llbit && !v.getLsbD 1) = _
  cases v.getLsbD 1 <;> simp

/-- Settles O47: each register's own write action, and what every software write leaves alone, `swapCsr_frame`. -/
theorem csrWriteActions : Obligations.CsrWriteActions := by
  intro i rd s v hp
  refine ⟨fun h => ?tcfg, fun h => ?ticlr, fun h => ?llbctl, fun h => ?ctag, fun rj n hm => ?empty⟩
  case tcfg =>
    have hcsr : (swapCsr rd 0x41#14 v s).csr = _ :=
      (swapCsr_csr rd .tcfg v s).trans (congrArg State.csr (writeTcfg_eq s v))
    have hrun : (swapCsr rd 0x41#14 v s).timerRunning = _ :=
      (swapCsr_timerRunning rd .tcfg v s).trans (congrArg State.timerRunning (writeTcfg_eq s v))
    have hll : (swapCsr rd 0x41#14 v s).llbit = _ :=
      (swapCsr_llbit rd .tcfg v s).trans (congrArg State.llbit (writeTcfg_eq s v))
    refine ⟨_, exec_of_writesCsr hp h, swapCsr_frame rd _ v s, swapCsr_result rd _ v s, ?_⟩
    rw [hcsr, hrun, hll]
    exact ⟨rfl, rfl, rfl, rfl, rfl⟩
  case ticlr =>
    have hcsr : (swapCsr rd 0x44#14 v s).csr = if v.getLsbD 0 then s.csr.setPending 11 false else s.csr :=
      (swapCsr_csr rd .ticlr v s).trans (congrArg State.csr (writeTiclr_eq s v))
    have hrun : (swapCsr rd 0x44#14 v s).timerRunning = s.timerRunning :=
      (swapCsr_timerRunning rd .ticlr v s).trans (by rw [writeTiclr_eq]; rfl)
    have hll : (swapCsr rd 0x44#14 v s).llbit = s.llbit :=
      (swapCsr_llbit rd .ticlr v s).trans (by rw [writeTiclr_eq]; rfl)
    refine ⟨_, exec_of_writesCsr hp h, swapCsr_frame rd _ v s, ?_, ?_⟩
    · rw [swapCsr_result]
      exact ite_self _
    · rw [hcsr]
      exact ⟨cleared_estat s.csr _, cleared_eq s.csr _, hrun, hll⟩
  case llbctl =>
    have hcsr : (swapCsr rd 0x60#14 v s).csr = _ := swapCsr_csr rd .llbctl v s
    refine ⟨_, exec_of_writesCsr hp h, swapCsr_frame rd _ v s, ?_, ?_⟩
    · rw [swapCsr_result, csrValue_eq_readCsr]
    · rw [hcsr]
      exact ⟨rfl, (swapCsr_llbit rd .llbctl v s).trans (writeLlbctl_llbit s v), rfl, swapCsr_timerRunning rd .llbctl v s⟩
  case ctag =>
    exact ⟨_, exec_of_writesCsr hp h, swapCsr_frame rd _ v s, swapCsr_result rd _ v s, swapCsr_csr rd .ctag v s,
      swapCsr_timerRunning rd .ctag v s, swapCsr_llbit rd .ctag v s⟩
  case empty =>
    rw [exec_csrxchg_empty hp rd n hm, csrValue_eq_readCsr]
    exact produce_effect rd _ s

end Sys2Proof.Machine
end

section
/-! SUPPORT. Matching and clearing of TLB entries in the terms of the statements; O48 and O50. -/

namespace Sys2Proof.Machine

/-! ### TLBSRCH (R95, R437) -/

/-- Among entries of the required page sizes, the model's match is the one of the statements. -/
theorem matches_iff_hit {s : State} (hr : RequiredSizes s) (i : Fin Config.tlbEntries) (asid : BitVec 10)
    (vppn : BitVec 19) : Matches (s.tlb.get i) asid vppn ↔ (s.tlb.get i).hit asid vppn = true := by
  cases he : (s.tlb.get i).e with
  | true => exact (TlbEntry.hit_iff _ asid vppn ((requiredPageSize_iff _).mpr (hr i he))).symm
  | false => simp [Matches, TlbEntry.hit, he]

theorem exec_tlbsrch_hit {s : State} {i : Fin Config.tlbEntries} (hp : s.csr.plv = 0#2)
    (h : s.tlbHits s.csr.vppn = [i]) : exec .tlbsrch s =
      .next (s.setCsr { s.csr with tlbidx := tlbidxAfterHit s.csr.tlbidx i }).advance := by
  refine (whenPrivileged_yes hp).trans ?_
  rw [h]

theorem exec_tlbsrch_miss {s : State} (hp : s.csr.plv = 0#2) (h : s.tlbHits s.csr.vppn = []) :
    exec .tlbsrch s = .next (s.setCsr { s.csr with tlbidx := setBit s.csr.tlbidx 31 true }).advance := by
  refine (whenPrivileged_yes hp).trans ?_
  rw [h]

theorem tlbidxAfterHit_index (w : Word) (i : Fin Config.tlbEntries) :
    (field (tlbidxAfterHit w i) 0 Config.tlbIndexBits).toNat = i.val := by
  have h : field (tlbidxAfterHit w i) 0 Config.tlbIndexBits = BitVec.ofNat Config.tlbIndexBits i.val :=
    (field_setField_other _ _ _ _ _ (by decide)).trans (field_setField_same _ _ _ (by decide))
  rw [h, BitVec.toNat_ofNat]
  exact Nat.mod_eq_of_lt i.isLt

theorem tlbidxAfterHit_ne (w : Word) (i : Fin Config.tlbEntries) : bit (tlbidxAfterHit w i) 31 = false :=
  bit_setBit _ 31 false 31 (by decide)

theorem tlbidxAfterHit_ps (w : Word) (i : Fin Config.tlbEntries) : field (tlbidxAfterHit w i) 24 6 = field w 24 6 :=
  (field_setField_other _ _ _ _ _ (by decide)).trans (field_setField_other _ _ _ _ _ (by decide))

theorem setCsr_tlbFrame (c : Csrs) (s : State) : TlbFrame s (s.setCsr c).advance :=
  ⟨fun _ => rfl, rfl, fun _ => rfl, fun _ => rfl, rfl, fun _ => rfl, rfl, rfl, rfl, rfl, rfl, rfl, rfl⟩

theorem setTlb_tlbFrame (l : Vector TlbEntry Config.tlbEntries) (s : State) : TlbFrame s (s.setTlb l).advance :=
  ⟨fun _ => rfl, rfl, fun _ => rfl, fun _ => rfl, rfl, fun _ => rfl, rfl, rfl, rfl, rfl, rfl, rfl, rfl⟩

/-- Settles O48: the lookup finds the one match, or nothing, by `matches_iff_hit`. -/
theorem tlbSearch : Obligations.TlbSearch := by
  intro s hp hr
  refine ⟨fun i hi hu => ?hit, fun hn => ?miss⟩
  case hit =>
    have hits : s.tlbHits s.csr.vppn = [i] := tlbHits_eq_singleton ((matches_iff_hit hr i _ _).mp hi)
      fun j hj => hu j ((matches_iff_hit hr j _ _).mpr hj)
    exact ⟨_, exec_tlbsrch_hit hp hits, tlbidxAfterHit_index _ i, tlbidxAfterHit_ne _ i, tlbidxAfterHit_ps _ i, rfl, rfl,
      setCsr_tlbFrame _ s⟩
  case miss =>
    have hits : s.tlbHits s.csr.vppn = [] := tlbHits_eq_nil fun i =>
      Bool.eq_false_of_not_eq_true fun hi => hn i ((matches_iff_hit hr i _ _).mpr hi)
    exact ⟨_, exec_tlbsrch_miss hp hits, bit_setBit _ 31 true 31 (by decide),
      field_setField_other _ _ _ _ _ (by decide), rfl, rfl, setCsr_tlbFrame _ s⟩

/-! ### INVTLB (R441) -/

/-- The entries that an operation selects are those of the table; operations 5 and 6 look at the page, so that there the
page size is a required one. -/
theorem invtlbSelects_iff {op : BitVec 5} {e : TlbEntry} (hop : op.toNat ≤ 6)
    (hs : 5 ≤ op.toNat → requiredPageSize e.ps = true) (a : BitVec 10) (va : Word) :
    invtlbSelects op a va e = true ↔ Cleared op a va e := by
  have hcases : ∀ op : BitVec 5, op.toNat ≤ 6 →
      op = 0#5 ∨ op = 1#5 ∨ op = 2#5 ∨ op = 3#5 ∨ op = 4#5 ∨ op = 5#5 ∨ op = 6#5 := by decide
  rcases hcases op hop with rfl | rfl | rfl | rfl | rfl | rfl | rfl
  · simp [invtlbSelects, Cleared]
  · simp [invtlbSelects, Cleared]
  · simp [invtlbSelects, Cleared]
  · simp [invtlbSelects, Cleared]
  · simp [invtlbSelects, Cleared]
  · simp [invtlbSelects, Cleared, e.matchesVa_iff _ (hs (by decide)), and_assoc]
  · simp [invtlbSelects, Cleared, e.matchesVa_iff _ (hs (by decide))]

/-- Taking away an entry's existence changes nothing where it does not exist. -/
theorem withoutExistence_eq (e : TlbEntry) (b : Bool) :
    (if e.e && b then { e with e := false } else e) = { e with e := e.e && !b } := by
  cases b with
  | true => cases he : e.e <;> simp [← he]
  | false => simp

/-- An entry after INVTLB: only its existence can have changed. -/
theorem get_invalidateTlb (op : BitVec 5) (a : BitVec 10) (va : Word) (l : Vector TlbEntry Config.tlbEntries)
    (i : Fin Config.tlbEntries) : (invalidateTlb op a va l).get i =
      { l.get i with e := (l.get i).e && !invtlbSelects op a va (l.get i) } := by
  rw [← withoutExistence_eq, invalidateTlb, Vector.get_eq_getElem, Vector.getElem_map]
  rfl

/-- Settles O50: the model's selection is the table, `invtlbSelects_iff`; entries that do not exist stay as they are. -/
theorem tlbInvalidate : Obligations.TlbInvalidate := by
  intro op rj rk s hp
  refine ⟨fun hop hsizes => ?table, fun hop => ?reserved⟩
  case table =>
    have hno : ¬ 6#5 < op := by
      rw [BitVec.lt_def]
      exact Nat.not_lt.mpr hop
    refine ⟨_, (whenPrivileged_yes hp).trans (if_neg hno), rfl, setTlb_tlbFrame _ s, fun i => ?_⟩
    refine ⟨_, get_invalidateTlb op _ _ s.tlb i, ?_⟩
    cases he : (s.tlb.get i).e with
    | false => simp
    | true =>
      have hsel := invtlbSelects_iff hop (fun h5 => (requiredPageSize_iff _).mpr (hsizes h5 i he))
        (field (s.reg rj) 0 10) (s.reg rk)
      simp [← hsel]
  case reserved =>
    have hyes : 6#5 < op := by
      rw [BitVec.lt_def]
      exact hop
    exact (whenPrivileged_yes hp).trans (if_pos hyes)

end Sys2Proof.Machine
end

section
/-! SUPPORT. Loads, stores and fetches that reach memory, in the terms of the statements: the value a load takes, what a
store and an SC.W leave, the bytes a fetch sees; O7, O19, O28, O29, O30 and O32. -/

namespace Sys2Proof.Machine

/-! ### Accesses that reach memory (R81, R82, R84) -/

section
variable {s : State} {kind : Access} {n : Nat} {va : Word} {pa : PAddr} {mat : BitVec 2}

theorem accessing_of_reaches {k : PAddr → BitVec 2 → Result} (h : Reaches s kind n va pa mat) :
    accessing kind n va s k = k pa mat :=
  let ⟨ha, ht, hr⟩ := h
  accessing_mapped ha ht hr

theorem reading_of_reaches {k : Nat → State} (h : Reaches s .load n va pa mat) :
    reading n va s k = .next (k (s.loadPhysical pa n)) := accessing_of_reaches h

theorem writing_of_reaches {v : Nat} (h : Reaches s .store n va pa mat) :
    writing n va v s = .next (s.storePhysical pa n v).advance := accessing_of_reaches h

end

theorem scaledAddress_eq_vaddr4 (s : State) (rj : RegNum) (o : BitVec 14) : s.scaledAddress rj o = vaddr4 s rj o :=
  congrArg (s.reg rj + ·) (scaled_eq o)

/-- The meaning of an instruction with a memory access is the checks of that access, then what it does there. -/
theorem exec_of_memoryAccess {i : Instr} {s : State} {kind : Access} {n : Nat} {va : Word}
    (h : memoryAccess s i = some (kind, n, va)) (hf : isFloatingPoint i = true → s.csr.fpe = true) :
    ∃ k, exec i s = accessing kind n va s k := by
  cases i with
  | ldB | ldBu | ldH | ldHu | ldW | stB | stH | stW =>
    cases h
    exact ⟨_, rfl⟩
  | fldS | fldD | fstS | fstD =>
    cases h
    exact ⟨_, whenFpEnabled_yes (hf rfl)⟩
  | llW | scW =>
    cases h
    rw [← scaledAddress_eq_vaddr4]
    exact ⟨_, rfl⟩
  | _ => cases h

/-- Settles O19: alignment comes first in `accessing`, and then the translation. -/
theorem memoryAccessTraps : Obligations.MemoryAccessTraps := by
  intro i s kind n va h hf
  obtain ⟨k, hk⟩ := exec_of_memoryAccess h hf
  rw [hk]
  exact ⟨accessing_misaligned, fun _ => accessing_trapped⟩

/-! ### Loads (R81, R83, R85) -/

/-- The end of a load into a general register, of the value that `ext` makes of the number loaded. -/
theorem loadReg_effect {s : State} {n : Nat} {va : Word} {pa : PAddr} {mat : BitVec 2} (rd : RegNum) (ext : Nat → Word)
    {v : Word} (h : Reaches s .load n va pa mat) (hv : ext (s.mem.load pa.toNat n) = v) :
    ∃ t, loadReg n rd va ext s = .next t ∧ GprEffect s t rd v (s.pc + 4#32) := by
  subst hv
  exact ⟨_, reading_of_reaches h, setReg_setPc_effect rd _ _ s⟩

/-- The high word of a doubleword loaded, byte by byte. -/
theorem Memory.load_double_high_bytes (m : Memory) (a : Nat) :
    BitVec.ofNat 32 (m.load a 8 / 2 ^ 32) = m.read (a + 7) ++ m.read (a + 6) ++ m.read (a + 5) ++ m.read (a + 4) := by
  rw [Memory.load_double_high, Memory.load_word]

/-- The low word of a doubleword loaded, byte by byte. -/
theorem Memory.load_double_low_bytes (m : Memory) (a : Nat) :
    BitVec.ofNat 32 (m.load a 8) = m.read (a + 3) ++ m.read (a + 2) ++ m.read (a + 1) ++ m.read a := by
  rw [Memory.load_double_low, Memory.load_word]

/-- Settles O28: each load is one register write, of the bytes that `Memory.load_byte` and following name. -/
theorem loads : Obligations.Loads := by
  intro rd rj o s pa mat m
  refine ⟨fun h => ?byte, fun h => ?half, fun h => ⟨?word, fun hf => ?fpWord⟩, fun h hf => ?fpDouble⟩
  case byte =>
    have hm : BitVec.ofNat 8 (s.mem.load pa.toNat 1) = m 0 := s.mem.load_byte _
    exact ⟨loadReg_effect rd (fun v => sext32 (.ofNat 8 v)) h (congrArg sext32 hm),
      loadReg_effect rd (fun v => zext32 (.ofNat 8 v)) h (congrArg zext32 hm)⟩
  case half =>
    have hm : BitVec.ofNat 16 (s.mem.load pa.toNat 2) = m 1 ++ m 0 := s.mem.load_half _
    exact ⟨loadReg_effect rd (fun v => sext32 (.ofNat 16 v)) h (congrArg sext32 hm),
      loadReg_effect rd (fun v => zext32 (.ofNat 16 v)) h (congrArg zext32 hm)⟩
  case word => exact loadReg_effect rd (BitVec.ofNat 32) h (s.mem.load_word _)
  case fpWord =>
    have hm : BitVec.ofNat 32 (s.mem.load pa.toNat 4) = m 3 ++ m 2 ++ m 1 ++ m 0 := s.mem.load_word _
    rw [← hm]
    exact ⟨_, (whenFpEnabled_yes hf).trans (reading_of_reaches h), setFregLow_effect s.fcsr rd _ s⟩
  case fpDouble =>
    have hlo : (FReg.ofDoubleBits (s.mem.load pa.toNat 8)).lo = m 3 ++ m 2 ++ m 1 ++ m 0 := s.mem.load_double_low_bytes _
    have hhi : (FReg.ofDoubleBits (s.mem.load pa.toNat 8)).hi = m 7 ++ m 6 ++ m 5 ++ m 4 := s.mem.load_double_high_bytes _
    rw [← hlo, ← hhi]
    exact ⟨_, (whenFpEnabled_yes hf).trans (reading_of_reaches h), setFreg_effect s.fcsr rd _ s⟩

/-! ### Stores (R82, R83, R102) -/

/-- Byte `i` of the low `n` bytes of a number. -/
theorem ofNat_extractLsb'_byte {n i : Nat} (x : Nat) (hi : i < n) :
    (BitVec.ofNat (8 * n) x).extractLsb' (8 * i) 8 = BitVec.ofNat 8 (x / 256 ^ i) := by
  have hp : 256 ^ i = 2 ^ (8 * i) := (Nat.pow_mul 2 8 i).symm
  apply BitVec.eq_of_getLsbD_eq
  intro j hj
  have hij : 8 * i + j < 8 * n := by omega
  rw [BitVec.getLsbD_extractLsb', BitVec.getLsbD_ofNat, BitVec.getLsbD_ofNat, hp, Nat.testBit_div_two_pow,
    Nat.add_comm j]
  simp [hj, hij]

/-- The `n` bytes of a number stored. -/
theorem stores_of_mem_eq {s t : State} {pa : PAddr} {n x : Nat} {v : BitVec (8 * n)} (hv : BitVec.ofNat (8 * n) x = v)
    (h : t.mem = s.mem.store pa.toNat n x) : Stores s t pa v := by
  subst hv
  refine ⟨fun i hi => ?_, fun a ha => ?_⟩
  · rw [h, Memory.read_store_inside _ _ _ _ _ hi, ofNat_extractLsb'_byte x hi]
  · rw [h, Memory.read_store_outside _ _ _ _ _ ha]

/-- The bytes stored over, put before the older ones that now are this core's to end. -/
theorem staleAfterStore_of_stale_eq {s t : State} {pa : PAddr} {n : Nat}
    (h : t.stale = overwritten s.mem pa.toNat n true ++ ownedBy pa.toNat n s.stale) : StaleAfterStore s t pa n where
  inside i hi := by
    rw [oldValues, h, List.filter_append, List.map_append, filter_overwritten, oldValues_ownedBy, if_pos (by omega)]
    rfl
  owned b hb hlo hhi := by
    rw [h, List.mem_append, mem_overwritten, mem_ownedBy] at hb
    rcases hb with ⟨_, -, rfl⟩ | ⟨-, hout⟩ | ⟨_, -, -, rfl⟩
    · rfl
    · exact absurd ⟨hlo, hhi⟩ hout
    · rfl
  outside a ha := by
    rw [h, List.filter_append, filter_overwritten, filter_ownedBy_outside _ _ _ _ ha, if_neg (by omega)]
    rfl

/-- The end of a store that reaches memory, of a number whose low `n` bytes are `v`. -/
theorem writing_effect {s : State} {n x : Nat} {va : Word} {pa : PAddr} {mat : BitVec 2} {v : BitVec (8 * n)}
    (h : Reaches s .store n va pa mat) (hv : BitVec.ofNat (8 * n) x = v) :
    ∃ t, writing n va x s = .next t ∧ StoreEffect s t pa v :=
  ⟨_, writing_of_reaches h,
    { memory := stores_of_mem_eq hv rfl
      stale := staleAfterStore_of_stale_eq rfl
      gpr := fun _ => rfl
      pc := rfl
      fpr := fun _ => rfl
      flags := fun _ => rfl
      fcsr := rfl
      system := ⟨rfl, rfl, rfl, rfl, rfl, rfl, rfl, rfl⟩ }⟩

theorem ofNat_toNat_eq_field (w : Word) (n : Nat) : BitVec.ofNat n w.toNat = field w 0 n := by
  simp [field, BitVec.extractLsb']

theorem ofNat_toNat_self {n : Nat} (v : BitVec n) : BitVec.ofNat n v.toNat = v := by simp

/-- A store of a floating-point register, with the unit enabled. -/
theorem whenFpEnabled_writing_effect {s : State} {n x : Nat} {va : Word} {pa : PAddr} {mat : BitVec 2} {v : BitVec (8 * n)}
    (hf : s.csr.fpe = true) (h : Reaches s .store n va pa mat) (hv : BitVec.ofNat (8 * n) x = v) :
    ∃ t, whenFpEnabled s (writing n va x s) = .next t ∧ StoreEffect s t pa v := by
  rw [whenFpEnabled_yes hf]
  exact writing_effect h hv

/-- Settles O29: each store is `writing`, of a number whose low bytes are the value of the statement. -/
theorem storeBytes : Obligations.StoreBytes := by
  intro rd rj o s pa mat
  refine ⟨fun h => ?byte, fun h => ?half, fun h => ⟨?word, fun hf => ?fpWord⟩, fun h hf => ?fpDouble⟩
  case byte => exact writing_effect h (ofNat_toNat_eq_field (s.reg rd) 8)
  case half => exact writing_effect h (ofNat_toNat_eq_field (s.reg rd) 16)
  case word => exact writing_effect h (ofNat_toNat_self (s.reg rd))
  case fpWord => exact whenFpEnabled_writing_effect hf h (ofNat_toNat_self (s.freg rd).lo)
  case fpDouble => exact whenFpEnabled_writing_effect hf h (ofNat_toNat_self ((s.freg rd).hi ++ (s.freg rd).lo))

/-! ### SC.W (R271, R273) -/

/-- SC.W, whichever of its two meanings: it may store, writes some value to `rd` and to LLbit, draws `k` free values and
goes on. -/
def afterStoreConditional (doit : Bool) (rd : RegNum) (v : Word) (b : Bool) (pa : PAddr) (k : Nat) (s : State) : State :=
  ((((storeIf doit pa (s.reg rd) s).setReg rd v).setLlbit b).drawn k).advance

theorem storeConditional_eq (rd : RegNum) (pa : PAddr) (s : State) :
    storeConditional rd pa s = afterStoreConditional s.llbit rd (boolWord s.llbit) false pa 0 s := rfl

theorem storeConditionalUncached_eq (rd : RegNum) (pa : PAddr) (s : State) :
    storeConditionalUncached rd pa s =
      afterStoreConditional (Config.freeBit s.draws) rd (Config.freeWord s.draws) (Config.freeBit (s.draws + 1)) pa 2 s :=
  rfl

/-- What SC.W does whatever it finds: it stores or it does not, and changes nothing else but `rd`, LLbit and the program
counter. -/
structure StoreConditionalEffect (s t : State) (rd : RegNum) (pa : PAddr) : Prop where
  store : Stores (n := 4) s t pa (s.reg rd) ∧ StaleAfterStore s t pa 4 ∨ SameMemory s t ∧ t.stale = s.stale
  others : ∀ r, r ≠ rd → t.reg r = s.reg r
  pc : t.pc = s.pc + 4#32
  fpr : SameFpr s t
  flags : SameFlags s t
  fcsr : t.fcsr = s.fcsr
  system : SameSystem s { t with llbit := s.llbit }

theorem StoreConditionalEffect.outside {s t : State} {rd : RegNum} {pa : PAddr} (h : StoreConditionalEffect s t rd pa)
    (a : Nat) (ha : a < pa.toNat ∨ pa.toNat + 4 ≤ a) : t.mem.read a = s.mem.read a := by
  rcases h.store with ⟨⟨-, hout⟩, -⟩ | ⟨hsame, -⟩
  · exact hout a ha
  · exact hsame a

section
variable (doit : Bool) (rd : RegNum) (v : Word) (b : Bool) (pa : PAddr) (k : Nat) (s : State)

theorem afterStoreConditional_stores :
    Stores (n := 4) s (afterStoreConditional true rd v b pa k s) pa (s.reg rd) ∧
      StaleAfterStore s (afterStoreConditional true rd v b pa k s) pa 4 :=
  ⟨stores_of_mem_eq (ofNat_toNat_self (s.reg rd)) rfl, staleAfterStore_of_stale_eq rfl⟩

theorem afterStoreConditional_keeps :
    SameMemory s (afterStoreConditional false rd v b pa k s) ∧
      (afterStoreConditional false rd v b pa k s).stale = s.stale := ⟨fun _ => rfl, rfl⟩

/-- Beside memory and the old bytes nothing depends on whether it stored. -/
theorem afterStoreConditional_eq : afterStoreConditional doit rd v b pa k s =
    { (((s.setReg rd v).setLlbit b).drawn k).advance with
      mem := (storeIf doit pa (s.reg rd) s).mem
      stale := (storeIf doit pa (s.reg rd) s).stale } := by
  cases doit <;> rfl

theorem afterStoreConditional_reg (r : RegNum) :
    (afterStoreConditional doit rd v b pa k s).reg r = (s.setReg rd v).reg r := by
  rw [afterStoreConditional_eq]
  rfl

theorem afterStoreConditional_effect :
    StoreConditionalEffect s (afterStoreConditional doit rd v b pa k s) rd pa where
  store := by
    cases doit with
    | true => exact .inl (afterStoreConditional_stores rd v b pa k s)
    | false => exact .inr (afterStoreConditional_keeps rd v b pa k s)
  others r hr := by rw [afterStoreConditional_reg, State.reg_setReg_other s hr]
  pc := by rw [afterStoreConditional_eq]; rfl
  fpr _ := by rw [afterStoreConditional_eq]; rfl
  flags _ := by rw [afterStoreConditional_eq]; rfl
  fcsr := by rw [afterStoreConditional_eq]; rfl
  system := by
    rw [afterStoreConditional_eq]
    exact ⟨rfl, rfl, rfl, rfl, rfl, rfl, rfl, rfl⟩

end

theorem exec_scW_of_reaches {s : State} {rj : RegNum} {o : BitVec 14} {pa : PAddr} {mat : BitVec 2} (rd : RegNum)
    (h : Reaches s .store 4 (vaddr4 s rj o) pa mat) :
    exec (.scW rd rj o) s =
      .next (if mat = 1#2 then storeConditional rd pa s else storeConditionalUncached rd pa s) := by
  rw [← scaledAddress_eq_vaddr4] at h
  refine (accessing_of_reaches h).trans ?_
  simp [isCached]

/-- Settles O32: both meanings of SC.W are `afterStoreConditional`, the cached one with what LLbit says. -/
theorem storeConditional_spec : Obligations.StoreConditional := by
  intro rd rj o s pa mat h
  rw [exec_scW_of_reaches rd h]
  by_cases hm : mat = 1#2
  case pos =>
    rw [if_pos hm, storeConditional_eq]
    have he := afterStoreConditional_effect s.llbit rd (boolWord s.llbit) false pa 0 s
    refine ⟨_, rfl, fun _ => ⟨?llbit, ?result, fun hl => ?stores, fun hl => ?keeps⟩,
      he.store, he.others, he.pc, he.outside, he.fpr, he.flags, he.fcsr, he.system⟩
    case llbit => rw [afterStoreConditional_eq]; rfl
    case result => rw [afterStoreConditional_reg, State.reg_setReg_same]; rfl
    case stores => rw [hl]; exact afterStoreConditional_stores ..
    case keeps => rw [hl]; exact afterStoreConditional_keeps ..
  case neg =>
    rw [if_neg hm, storeConditionalUncached_eq]
    have he := afterStoreConditional_effect (Config.freeBit s.draws) rd (Config.freeWord s.draws)
      (Config.freeBit (s.draws + 1)) pa 2 s
    exact ⟨_, rfl, fun hm' => absurd hm' hm,
      he.store, he.others, he.pc, he.outside, he.fpr, he.flags, he.fcsr, he.system⟩

/-! ### Barriers and hints (R259, R275, R276) -/

theorem mem_afterIbar (l : List StaleByte) (b : StaleByte) : b ∈ afterIbar l ↔ b ∈ l ∧ b.own = false := by
  simp [afterIbar]

/-- A fetch of four bytes that nothing has overwritten reads memory. -/
theorem fetchWordAt_fresh {s : State} {pa : PAddr} (h : ∀ b ∈ s.stale, b.addr < pa.toNat ∨ pa.toNat + 4 ≤ b.addr) :
    s.fetchWordAt pa = s.mem.read (pa.toNat + 3) ++ s.mem.read (pa.toNat + 2) ++ s.mem.read (pa.toNat + 1) ++
      s.mem.read pa.toNat := by
  have hfresh : ∀ i < 4, fetchByte s.mem s.stale s.draws (pa.toNat + i) = s.mem.read (pa.toNat + i) := fun i hi =>
    fetchByte_fresh fun b hb => by
      have := h b hb
      omega
  have h0 := hfresh 0 (by decide)
  rw [Nat.add_zero] at h0
  rw [State.fetchWordAt, hfresh 3 (by decide), hfresh 2 (by decide), hfresh 1 (by decide), h0]

theorem exec_ibar (hint : BitVec 15) (s : State) : exec (.ibar hint) s = .next (s.setStale (afterIbar s.stale)).advance := by
  show execIbar hint s = _
  rw [execIbar, actsAsHint0_ibar, if_pos rfl]

/-- Settles O30: after IBAR the old bytes are those of other agents alone, `mem_afterIbar`, so a fetch beside them reads
memory. -/
theorem hintsAndBarriers : Obligations.HintsAndBarriers := by
  intro h5 h15 rj o s
  refine ⟨⟨_, rfl, setPc_effect _ s⟩, ⟨_, rfl, setPc_effect _ s⟩, _, exec_ibar h15 s, rfl, mem_afterIbar s.stale,
    fun pa hpa => ?_⟩
  refine fetchWordAt_fresh (s := (s.setStale (afterIbar s.stale)).advance) fun b hb => ?_
  obtain ⟨hs, ho⟩ := (mem_afterIbar s.stale b).mp hb
  exact hpa b hs ho

/-! ### Fetch (R88, R102) -/

/-- The low two bits are 0 when the number is a multiple of 4. -/
theorem field_low_two_eq_zero_iff (w : Word) : field w 0 2 = 0#2 ↔ w.toNat % 4 = 0 := by
  rw [← BitVec.toNat_inj]
  simp [field]

theorem fetch_misaligned {s : State} (h : s.pc.toNat % 4 ≠ 0) : s.fetch = .trapped (.adef s.pc) :=
  if_pos (mt (field_low_two_eq_zero_iff s.pc).mp h)

theorem fetch_trapped {s : State} {e : Trap} (ha : s.pc.toNat % 4 = 0) (ht : s.translate .fetch s.pc = .trapped e) :
    s.fetch = .trapped e := by
  simp [State.fetch, (field_low_two_eq_zero_iff s.pc).mpr ha, ht]

theorem fetch_of_reaches {s : State} {pa : PAddr} {mat : BitVec 2} (h : Reaches s .fetch 4 s.pc pa mat) :
    s.fetch = .word (s.fetchWordAt pa) :=
  let ⟨ha, ht, hr⟩ := h
  fetch_word ((field_low_two_eq_zero_iff s.pc).mpr ha) ht hr

/-- A list's element at any place, or the default, is the default or in the list. -/
theorem getD_mem_cons {α : Type} (l : List α) (i : Nat) (d : α) : l.getD i d ∈ d :: l := by
  rw [List.getD_eq_getElem?_getD]
  cases h : l[i]? with
  | none => exact List.mem_cons_self
  | some x => exact List.mem_cons_of_mem _ (List.mem_of_getElem? h)

/-- A byte fetched is the one in memory or one it held before. -/
theorem fetchByte_mem (s : State) (a : Nat) : fetchByte s.mem s.stale s.draws a ∈ s.mem.read a :: oldValues s a := by
  unfold fetchByte oldValues
  split
  · exact List.mem_cons_self
  · next h =>
    rw [h]
    exact getD_mem_cons _ _ _

/-- Settles O7: the checks of `fetch` in their order, then each byte by `fetchByte_mem`. -/
theorem fetchReadsMemory : Obligations.FetchReadsMemory := by
  intro s
  refine ⟨fetch_misaligned, fun _ => fetch_trapped, fun pa mat h => ?_⟩
  rw [fetch_of_reaches h]
  refine ⟨⟨_, _, _, _, rfl, fetchByte_mem s _, fetchByte_mem s _, fetchByte_mem s _, fetchByte_mem s _⟩, fun hfresh => ?_⟩
  rw [fetchWordAt_fresh hfresh]

end Sys2Proof.Machine
end

section
/-! SUPPORT. Address translation in the terms of the statements: windows, the entry a lookup finds, the checks on its page,
and the physical address; O52. -/

namespace Sys2Proof.Machine

/-! ### Direct mode and the choice of mode (R90, R91) -/

section
variable {s : State} {kind : Access} {va : Word}

theorem directMat_eq (c : Csrs) (kind : Access) : c.directMat kind = if kind = .fetch then c.datf else c.datm := by
  cases kind <;> rfl

theorem translate_of_direct (hda : s.csr.da = true) (hpg : s.csr.pg = false) :
    s.translate kind va = .mapped (va.setWidth Config.palen) (if kind = .fetch then s.csr.datf else s.csr.datm) := by
  rw [← directMat_eq]
  exact if_pos ⟨hda, hpg⟩

theorem translate_of_mapped (hda : s.csr.da = false) (hpg : s.csr.pg = true) :
    s.translate kind va = s.translateMapped kind va := by
  simp [State.translate, hda, hpg]

end

/-! ### Windows (R92, R94) -/

/-- At PLV0 and PLV3 the model's windows are those of the statements; the other levels are log 35. -/
theorem windowMatches_iff {plv : BitVec 2} (hp : plv = 0#2 ∨ plv = 3#2) (dmw va : Word) :
    WindowMatches dmw plv va ↔ windowHit dmw plv va = true := by
  rcases hp with rfl | rfl <;> simp [WindowMatches, windowHit, bit]

theorem windowAddress_eq (dmw va : Word) : windowAddress dmw va = (field dmw 25 3 ++ field va 0 29 : Word) :=
  BitVec.setWidth_eq _

theorem windowAddress_high (dmw va : Word) : field (windowAddress dmw va) 29 3 = field dmw 25 3 := by
  rw [windowAddress_eq]
  apply BitVec.eq_of_getLsbD_eq
  intro i hi
  rw [field_getLsbD, BitVec.getLsbD_append]
  simp [hi]

theorem windowAddress_low (dmw va : Word) : field (windowAddress dmw va) 0 29 = field va 0 29 := by
  rw [windowAddress_eq]
  apply BitVec.eq_of_getLsbD_eq
  intro i hi
  rw [field_getLsbD, BitVec.getLsbD_append]
  simp [hi]

/-! ### Mapped mode (R89, R92, R93) -/

section
variable {s : State} {kind : Access} {va : Word}

theorem translateMapped_dmw0 (h : windowHit s.csr.dmw0 s.csr.plv va = true) :
    s.translateMapped kind va = .mapped (windowAddress s.csr.dmw0 va) (field s.csr.dmw0 4 2) := if_pos h

theorem translateMapped_dmw1 (h0 : windowHit s.csr.dmw0 s.csr.plv va = false)
    (h1 : windowHit s.csr.dmw1 s.csr.plv va = true) :
    s.translateMapped kind va = .mapped (windowAddress s.csr.dmw1 va) (field s.csr.dmw1 4 2) := by
  simp [State.translateMapped, h0, h1]

theorem translateMapped_illegal (h0 : windowHit s.csr.dmw0 s.csr.plv va = false)
    (h1 : windowHit s.csr.dmw1 s.csr.plv va = false) (hp : s.csr.plv ≠ 0#2) (hb : bit va 31 = true) :
    s.translateMapped kind va = .trapped (addressError kind va) := by
  simp [State.translateMapped, h0, h1, hp, hb]

theorem translateMapped_tlb (h0 : windowHit s.csr.dmw0 s.csr.plv va = false)
    (h1 : windowHit s.csr.dmw1 s.csr.plv va = false) (hb : s.csr.plv ≠ 0#2 → bit va 31 = false) :
    s.translateMapped kind va = s.translateTlb kind va := by
  have hlegal : ¬ (s.csr.plv ≠ 0#2 ∧ bit va 31 = true) := fun ⟨hp, hb'⟩ => Bool.false_ne_true ((hb hp).symm.trans hb')
  simp only [State.translateMapped, h0, h1, if_neg hlegal]
  rfl

/-! ### The TLB (R95) -/

theorem translateTlb_miss (h : s.tlbHits (field va 13 19) = []) : s.translateTlb kind va = .trapped (.tlbr va) := by
  simp only [State.translateTlb, h]

theorem translateTlb_hit {i : Fin Config.tlbEntries} (h : s.tlbHits (field va 13 19) = [i]) :
    s.translateTlb kind va = (s.tlb.get i).translate kind s.csr.plv va := by
  simp only [State.translateTlb, h]

/-- The lookup of an address that one entry alone matches. -/
theorem translateTlb_of_matches (hr : RequiredSizes s) {i : Fin Config.tlbEntries}
    (hi : Matches (s.tlb.get i) s.csr.asid (field va 13 19))
    (hu : ∀ j : Fin Config.tlbEntries, Matches (s.tlb.get j) s.csr.asid (field va 13 19) → j = i) :
    s.translateTlb kind va = (s.tlb.get i).translate kind s.csr.plv va :=
  translateTlb_hit (tlbHits_eq_singleton ((matches_iff_hit hr i _ _).mp hi)
    fun j hj => hu j ((matches_iff_hit hr j _ _).mpr hj))

theorem translateTlb_of_not_matches (hr : RequiredSizes s)
    (hn : ∀ i : Fin Config.tlbEntries, ¬ Matches (s.tlb.get i) s.csr.asid (field va 13 19)) :
    s.translateTlb kind va = .trapped (.tlbr va) :=
  translateTlb_miss (tlbHits_eq_nil fun i =>
    Bool.eq_false_of_not_eq_true fun hi => hn i ((matches_iff_hit hr i _ _).mpr hi))

end

/-- The page of a required size that an address selects. -/
theorem TlbEntry.page_of_required {e : TlbEntry} (h : requiredPageSize e.ps = true) (va : Word) :
    e.page va = if va.getLsbD e.ps.toNat then e.page1 else e.page0 := by
  simp [TlbEntry.page, h, bit]

section
variable {e : TlbEntry} {kind : Access} {plv : BitVec 2} {va : Word}

theorem TlbEntry.translate_invalid (hv : (e.page va).v = false) :
    e.translate kind plv va = .trapped (pageInvalid kind va) := if_pos hv

theorem TlbEntry.translate_privilege (hv : (e.page va).v = true) (hp : (e.page va).plv.toNat < plv.toNat) :
    e.translate kind plv va = .trapped (.ppi va) := by
  simp [TlbEntry.translate, hv, BitVec.lt_def, hp]

theorem TlbEntry.translate_modification (hv : (e.page va).v = true) (hp : plv.toNat ≤ (e.page va).plv.toNat)
    (hk : kind = .store) (hd : (e.page va).d = false) : e.translate kind plv va = .trapped (.pme va) := by
  simp [TlbEntry.translate, hv, BitVec.lt_def, Nat.not_lt.mpr hp, hk, hd]

theorem TlbEntry.translate_mapped (hv : (e.page va).v = true) (hp : plv.toNat ≤ (e.page va).plv.toNat)
    (hd : kind = .store → (e.page va).d = true) :
    e.translate kind plv va = .mapped (pageAddress e.ps (e.page va).ppn va) (e.page va).mat := by
  have hclean : ¬ (kind = .store ∧ (e.page va).d = false) := fun ⟨hk, hd'⟩ =>
    Bool.false_ne_true (hd'.symm.trans (hd hk))
  simp [TlbEntry.translate, hv, BitVec.lt_def, Nat.not_lt.mpr hp, hclean]

end

/-- Settles O52: the modes, windows and lookups are the branches of `translateMapped`, in their order, and the checks on the
page those of `TlbEntry.translate`. -/
theorem translation : Obligations.Translation := by
  intro s kind va
  refine ⟨translate_of_direct, fun hda hpg hplv => ?_⟩
  rw [translate_of_mapped hda hpg]
  have hno {dmw : Word} (h : ¬ WindowMatches dmw s.csr.plv va) : windowHit dmw s.csr.plv va = false :=
    Bool.eq_false_of_not_eq_true (mt (windowMatches_iff hplv dmw va).mpr h)
  refine ⟨fun h0 => ?dmw0, fun h0 h1 => ?dmw1, fun h0 h1 => ⟨fun hp hb => ?illegal, fun hb hr => ?lookup⟩⟩
  case dmw0 =>
    exact ⟨_, translateMapped_dmw0 ((windowMatches_iff hplv _ va).mp h0), windowAddress_high .., windowAddress_low ..⟩
  case dmw1 =>
    exact ⟨_, translateMapped_dmw1 (hno h0) ((windowMatches_iff hplv _ va).mp h1), windowAddress_high ..,
      windowAddress_low ..⟩
  case illegal =>
    rw [translateMapped_illegal (hno h0) (hno h1) (by rw [hp]; decide) hb]
    cases kind <;> rfl
  case lookup =>
    rw [translateMapped_tlb (hno h0) (hno h1) fun hp => hb (hplv.resolve_left hp)]
    refine ⟨translateTlb_of_not_matches hr, ?_⟩
    intro i hi hu e p
    have hps : requiredPageSize e.ps = true := (requiredPageSize_iff _).mpr (hr i hi.1)
    have hpage : e.page va = p := TlbEntry.page_of_required hps va
    rw [translateTlb_of_matches hr hi hu, ← hpage]
    refine ⟨fun hv => ?_, TlbEntry.translate_privilege, TlbEntry.translate_modification,
      fun hv hp hd => ⟨_, TlbEntry.translate_mapped hv hp hd, pageAddress_toNat _ _ va hps⟩⟩
    rw [TlbEntry.translate_invalid hv]
    cases kind <;> rfl

end Sys2Proof.Machine
end

section
/-! SUPPORT. The rows of the opcode table: the encoder undoes each of them, no two accept one word, and so the decoder
answers what the one accepting row builds; the statements about encoding: O1 to O5. -/

namespace Sys2Proof

/-! ### Operand fields (R123, R124) -/

/-- A field of a word, placed where it was read. -/
theorem place_field (w : Word) (lo n : Nat) : place (field w lo n) lo = w &&& ones lo n := by
  apply BitVec.eq_of_getLsbD_eq
  intro i hi
  rw [place_getLsbD, field_getLsbD, BitVec.getLsbD_and, ones_getLsbD]
  by_cases hlo : lo ≤ i
  · have hidx : lo + (i - lo) = i := by omega
    have hin : i - lo < n ↔ i < lo + n := by omega
    simp [hi, hlo, hidx, hin, Bool.and_comm]
  · simp [hlo]

/-- The operand fields of an instruction word, each by its lowest bit and its width, in the order in which `encode`
places them. -/
abbrev Layout := List (Nat × Nat)

/-! The layouts of R123; formats that differ only in what their fields mean share one. -/

/-- 0R. -/
def Layout.r0 : Layout := []
/-- 1R with the register in bits 4:0. -/
def Layout.rd : Layout := [(0, 5)]
/-- 1R with the register in bits 9:5. -/
def Layout.rj : Layout := [(5, 5)]
/-- I15. -/
def Layout.i15 : Layout := [(0, 15)]
/-- 2F, and 2X where both registers have five bits. -/
def Layout.r2 : Layout := [(5, 5), (0, 5)]
/-- 2X with a condition flag in bits 2:0. -/
def Layout.toFlag : Layout := [(5, 5), (0, 3)]
/-- 2X with a condition flag in bits 7:5. -/
def Layout.fromFlag : Layout := [(5, 3), (0, 5)]
/-- 1RI20. -/
def Layout.r1i20 : Layout := [(5, 20), (0, 5)]
/-- CSR where `rj` is fixed. -/
def Layout.csr : Layout := [(10, 14), (0, 5)]
/-- I26. -/
def Layout.i26 : Layout := [(10, 16), (0, 10)]
/-- 1CI21. -/
def Layout.ci21 : Layout := [(10, 16), (0, 5), (5, 3)]
/-- 3R, 3F, 2RI5 and INVTLB. -/
def Layout.r3 : Layout := [(10, 5), (5, 5), (0, 5)]
/-- FCMP. -/
def Layout.fcmp : Layout := [(10, 5), (5, 5), (0, 3)]
/-- 2RI12. -/
def Layout.r2i12 : Layout := [(10, 12), (5, 5), (0, 5)]
/-- 2RI14, and CSR where `rj` is an operand. -/
def Layout.r2i14 : Layout := [(10, 14), (5, 5), (0, 5)]
/-- 2RI16. -/
def Layout.r2i16 : Layout := [(10, 16), (5, 5), (0, 5)]
/-- 4F. -/
def Layout.r4 : Layout := [(15, 5), (10, 5), (5, 5), (0, 5)]
/-- FSEL. -/
def Layout.fsel : Layout := [(15, 3), (10, 5), (5, 5), (0, 5)]

/-- Fixed bits `c` with the fields of `w` placed. -/
def Layout.fill (w : Word) (l : Layout) (c : Word) : Word := l.foldl (fun v f => v ||| place (field w f.1 f.2) f.1) c

/-- The bits of `m` and those of the fields. -/
def Layout.cover (l : Layout) (m : Word) : Word := l.foldl (fun v f => v ||| ones f.1 f.2) m

/-- Filling in the fields of `w` gives back all bits of `w` that are fixed or in a field. -/
theorem Layout.fill_eq {w m c : Word} (l : Layout) (h : w &&& m = c) : l.fill w c = w &&& l.cover m := by
  induction l generalizing m c with
  | nil => exact h.symm
  | cons f l ih => exact ih (by simp only [BitVec.and_or_distrib_left, h, place_field])

/-! ### The encoder undoes every row (R140, R143, R147) -/

/-- The encoder undoes the row: the instruction built from a word with the row's fixed bits has that word, its fields
are admitted exactly when the guard holds, and the guard looks at the field `rj` alone (R143). -/
structure OpcodeRow.Inverted (r : OpcodeRow) : Prop where
  encode_build : ∀ w, w &&& r.mask = r.pattern → encode (r.build w) = w
  guard_eq : ∀ w, r.guard w = (r.build w).fieldsOk
  guard_rj : ∀ w, r.guard w = r.guard (w &&& ones 5 5)

/-- A row whose operand fields are those of `l`: every bit is fixed or in a field. -/
theorem OpcodeRow.Inverted.laidOut {r : OpcodeRow} (l : Layout)
    (encode_eq : ∀ w, encode (r.build w) = l.fill w r.pattern := by exact fun _ => rfl)
    (cover_eq : l.cover r.mask = BitVec.allOnes 32 := by rfl)
    (guard_eq : ∀ w, r.guard w = (r.build w).fieldsOk := by exact fun _ => rfl)
    (guard_rj : ∀ w, r.guard w = r.guard (w &&& ones 5 5) := by exact fun _ => rfl) : r.Inverted where
  encode_build w h := by rw [encode_eq, l.fill_eq h, cover_eq, BitVec.and_allOnes]
  guard_eq := guard_eq
  guard_rj := guard_rj

theorem field_rj_and (w : Word) : field (w &&& ones 5 5) 5 5 = field w 5 5 := by
  rw [← place_field, field_place_same _ _ (by decide)]

/-- The two fields of a 26-bit operand, read from their join (R125). -/
theorem encode_join26 (c w : Word) :
    c ||| place ((field w 0 10 ++ field w 10 16).extractLsb' 0 16) 10
      ||| place ((field w 0 10 ++ field w 10 16).extractLsb' 16 10) 0 = Layout.i26.fill w c := by
  rw [BitVec.extractLsb'_append_eq_right, BitVec.extractLsb'_append_eq_left]
  rfl

/-- The two fields of a 21-bit operand, read from their join, and `cj` (R125). -/
theorem encode_join21 (c w : Word) :
    c ||| place ((field w 0 5 ++ field w 10 16).extractLsb' 0 16) 10
      ||| place ((field w 0 5 ++ field w 10 16).extractLsb' 16 5) 0 ||| place (field w 5 3) 5 =
      Layout.ci21.fill w c := by
  rw [BitVec.extractLsb'_append_eq_right, BitVec.extractLsb'_append_eq_left]
  rfl

theorem intArithRows_inverted : intArithRows.Forall OpcodeRow.Inverted := by
  simp only [intArithRows, List.Forall]
  exact ⟨.laidOut .r3, .laidOut .r3, .laidOut .r2i12, .laidOut .r1i20, .laidOut .r3, .laidOut .r3, .laidOut .r2i12,
    .laidOut .r2i12, .laidOut .r1i20, .laidOut .r3, .laidOut .r3, .laidOut .r3, .laidOut .r3, .laidOut .r3,
    .laidOut .r3, .laidOut .r3⟩

theorem logicRows_inverted : logicRows.Forall OpcodeRow.Inverted := by
  simp only [logicRows, List.Forall]
  exact ⟨.laidOut .r3, .laidOut .r3, .laidOut .r3, .laidOut .r3, .laidOut .r2i12, .laidOut .r2i12, .laidOut .r2i12,
    .laidOut .r3, .laidOut .r3, .laidOut .r3, .laidOut .r3, .laidOut .r3, .laidOut .r3⟩

theorem branchRows_inverted : branchRows.Forall OpcodeRow.Inverted := by
  simp only [branchRows, List.Forall]
  exact ⟨.laidOut .r2i16, .laidOut .r2i16, .laidOut .r2i16, .laidOut .r2i16, .laidOut .r2i16, .laidOut .r2i16,
    .laidOut .i26 (encode_join26 _), .laidOut .i26 (encode_join26 _), .laidOut .r2i16⟩

theorem loadStoreRows_inverted : loadStoreRows.Forall OpcodeRow.Inverted := by
  simp only [loadStoreRows, List.Forall]
  and_intros <;> exact .laidOut .r2i12

theorem atomicRows_inverted : atomicRows.Forall OpcodeRow.Inverted := by
  simp only [atomicRows, List.Forall]
  exact ⟨.laidOut .r2i14, .laidOut .r2i14, .laidOut .i15, .laidOut .i15⟩

theorem miscRows_inverted : miscRows.Forall OpcodeRow.Inverted := by
  simp only [miscRows, List.Forall]
  exact ⟨.laidOut .i15, .laidOut .i15, .laidOut .rd, .laidOut .rd,
    .laidOut .rj (guard_rj := fun w => by simp only [field_rj_and])⟩

theorem fpArithRows1_inverted : fpArithRows1.Forall OpcodeRow.Inverted := by
  simp only [fpArithRows1, List.Forall]
  exact ⟨.laidOut .r3, .laidOut .r3, .laidOut .r3, .laidOut .r3, .laidOut .r3, .laidOut .r3, .laidOut .r3,
    .laidOut .r3, .laidOut .r4, .laidOut .r4, .laidOut .r4, .laidOut .r4, .laidOut .r4, .laidOut .r4, .laidOut .r4,
    .laidOut .r4, .laidOut .r3, .laidOut .r3, .laidOut .r3, .laidOut .r3⟩

theorem fpArithRows2_inverted : fpArithRows2.Forall OpcodeRow.Inverted := by
  simp only [fpArithRows2, List.Forall]
  exact ⟨.laidOut .r3, .laidOut .r3, .laidOut .r3, .laidOut .r3, .laidOut .r2, .laidOut .r2, .laidOut .r2,
    .laidOut .r2, .laidOut .r2, .laidOut .r2, .laidOut .r2, .laidOut .r2, .laidOut .r2, .laidOut .r2, .laidOut .r3,
    .laidOut .r3, .laidOut .r2, .laidOut .r2⟩

theorem fpCmpCvtRows1_inverted : fpCmpCvtRows1.Forall OpcodeRow.Inverted := by
  simp only [fpCmpCvtRows1, List.Forall]
  and_intros <;> exact .laidOut .fcmp

theorem fpCmpCvtRows2_inverted : fpCmpCvtRows2.Forall OpcodeRow.Inverted := by
  simp only [fpCmpCvtRows2, List.Forall]
  and_intros <;> exact .laidOut .fcmp

theorem fpCmpCvtRows3_inverted : fpCmpCvtRows3.Forall OpcodeRow.Inverted := by
  simp only [fpCmpCvtRows3, List.Forall]
  exact ⟨.laidOut .fcmp, .laidOut .fcmp, .laidOut .fcmp, .laidOut .fcmp, .laidOut .r2, .laidOut .r2, .laidOut .r2,
    .laidOut .r2, .laidOut .r2, .laidOut .r2, .laidOut .r2, .laidOut .r2, .laidOut .r2, .laidOut .r2, .laidOut .r2,
    .laidOut .r2, .laidOut .r2, .laidOut .r2⟩

theorem fpMoveRows_inverted : fpMoveRows.Forall OpcodeRow.Inverted := by
  simp only [fpMoveRows, List.Forall]
  exact ⟨.laidOut .r2, .laidOut .r2, .laidOut .fsel, .laidOut .r2, .laidOut .r2, .laidOut .r2, .laidOut .r2,
    .laidOut .r2, .laidOut .r2, .laidOut .toFlag, .laidOut .fromFlag, .laidOut .toFlag, .laidOut .fromFlag,
    .laidOut .ci21 (encode_join21 _), .laidOut .ci21 (encode_join21 _), .laidOut .r2i12, .laidOut .r2i12,
    .laidOut .r2i12, .laidOut .r2i12⟩

theorem privRows_inverted : privRows.Forall OpcodeRow.Inverted := by
  simp only [privRows, List.Forall]
  exact ⟨.laidOut .csr, .laidOut .csr, .laidOut .r2i14 (guard_rj := fun w => by simp only [field_rj_and]),
    .laidOut .r2i12, .laidOut .r0, .laidOut .r0, .laidOut .r0, .laidOut .r0, .laidOut .r3, .laidOut .r0,
    .laidOut .i15⟩

/-- The encoder undoes every row of the opcode table. -/
theorem opcodeRows_inverted {r : OpcodeRow} (hr : r ∈ opcodeRows) : r.Inverted := by
  suffices h : opcodeRows.Forall OpcodeRow.Inverted from List.forall_iff_forall_mem.mp h r hr
  simp only [opcodeRows, List.forall_append]
  exact ⟨⟨⟨⟨⟨⟨⟨⟨⟨⟨⟨⟨intArithRows_inverted, logicRows_inverted⟩, branchRows_inverted⟩, loadStoreRows_inverted⟩,
    atomicRows_inverted⟩, miscRows_inverted⟩, fpArithRows1_inverted⟩, fpArithRows2_inverted⟩, fpCmpCvtRows1_inverted⟩,
    fpCmpCvtRows2_inverted⟩, fpCmpCvtRows3_inverted⟩, fpMoveRows_inverted⟩, privRows_inverted⟩

/-! ### At most one row accepts a word (R140) -/

theorem OpcodeRow.accepts_iff {r : OpcodeRow} {w : Word} :
    r.accepts w = true ↔ w &&& r.mask = r.pattern ∧ r.guard w = true := by
  simp [OpcodeRow.accepts]

/-- Two rows are told apart by a bit that both fix, differently, or because the first fixes the field `rj` to a
number that the guard of the second refuses (R143: RDCNTVL.W and RDCNTID, CSRRD and CSRWR and CSRXCHG). -/
def OpcodeRow.apart (a b : OpcodeRow) : Bool :=
  a.mask &&& b.mask &&& (a.pattern ^^^ b.pattern) != 0#32 || ones 5 5 &&& a.mask == ones 5 5 && !b.guard a.pattern

/-- A bit that two masks both have is in both masked words the same. -/
theorem masked_agree (w m n : Word) : m &&& n &&& ((w &&& m) ^^^ (w &&& n)) = 0#32 := by
  have hbit : ∀ x y z : Bool, (y && z && ((x && y) ^^ (x && z))) = false := by decide
  apply BitVec.eq_of_getLsbD_eq
  intro i _
  simp only [BitVec.getLsbD_and, BitVec.getLsbD_xor, hbit, BitVec.getLsbD_zero]

/-- Rows that are told apart accept no common word. -/
theorem OpcodeRow.not_accepts_of_apart {a b : OpcodeRow} (hb : b.Inverted) (h : a.apart b = true) (w : Word) :
    ¬ (a.accepts w = true ∧ b.accepts w = true) := by
  rintro ⟨hwa, hwb⟩
  obtain ⟨hpa, -⟩ := accepts_iff.mp hwa
  obtain ⟨hpb, hguard⟩ := accepts_iff.mp hwb
  simp only [apart, Bool.or_eq_true, bne_iff_ne, Bool.and_eq_true, beq_iff_eq, Bool.not_eq_true'] at h
  obtain hbits | ⟨hrj, hrefused⟩ := h
  · exact hbits (by rw [← hpa, ← hpb, masked_agree])
  · have hsame : a.pattern &&& ones 5 5 = w &&& ones 5 5 := by
      rw [← hpa, BitVec.and_assoc, BitVec.and_comm a.mask, hrj]
    rw [hb.guard_rj, ← hsame, ← hb.guard_rj, hrefused] at hguard
    exact Bool.false_ne_true hguard

/-- The whole table, pair by pair: a comparison of fixed bits. -/
theorem opcodeRows_apart : opcodeRows.Pairwise (fun a b => a.apart b = true) := by decide +kernel

/-- Settles O3: every two rows are told apart by their fixed bits or by a guard. -/
theorem atMostOneRowMatches : Obligations.AtMostOneRowMatches :=
  opcodeRows_apart.imp_of_mem fun _ hb h => OpcodeRow.not_accepts_of_apart (opcodeRows_inverted hb) h

/-! ### What the decoder answers (R140, R142) -/

/-- Where no two elements satisfy `p`, an element that does is the one found. -/
theorem find?_eq_some_of_pairwise {α : Type} {p : α → Bool} {a : α} {l : List α}
    (hl : l.Pairwise (fun a b => ¬ (p a = true ∧ p b = true))) (ha : a ∈ l) (hp : p a = true) : l.find? p = some a := by
  induction l with
  | nil => cases ha
  | cons b l ih =>
    obtain ⟨hb, hl⟩ := List.pairwise_cons.mp hl
    obtain rfl | ha := List.mem_cons.mp ha
    · exact List.find?_cons_of_pos hp
    · rw [List.find?_cons_of_neg fun hpb => hb a ha ⟨hpb, hp⟩]
      exact ih hl ha

theorem find?_opcodeRows {r : OpcodeRow} {w : Word} (hr : r ∈ opcodeRows) (h : r.accepts w = true) :
    opcodeRows.find? (fun r => r.accepts w) = some r :=
  find?_eq_some_of_pairwise (atMostOneRowMatches.imp fun hab => hab w) hr h

/-- A word decodes to what the row that accepts it builds, where the core has that instruction. -/
theorem decodeWord_eq_ok_iff {w : Word} {i : Instr} : decodeWord w = .ok i ↔
    ∃ r ∈ opcodeRows, r.accepts w = true ∧ r.build w = i ∧ i.availableIn Config.hasFp Config.flen = true := by
  constructor
  · intro h
    unfold decodeWord at h
    split at h
    · cases h
    · next r hfind =>
      split at h
      · next hav =>
        cases h
        exact ⟨r, List.mem_of_find?_eq_some hfind, List.find?_some (p := (OpcodeRow.accepts · w)) hfind, rfl, hav⟩
      · cases h
  · rintro ⟨r, hr, hw, rfl, hav⟩
    simp only [decodeWord, find?_opcodeRows hr hw, hav, if_true]

theorem decodeWord_of_not_accepted {w : Word} (h : ∀ r ∈ opcodeRows, r.accepts w = false) :
    decodeWord w = .rejected .reservedEncoding := by
  have hnone : opcodeRows.find? (fun r => r.accepts w) = none :=
    List.find?_eq_none.mpr fun r hr => by simp [h r hr]
  simp only [decodeWord, hnone]

theorem Instr.wellFormed_iff {i : Instr} :
    i.wellFormed = true ↔ i.fieldsOk = true ∧ i.availableIn Config.hasFp Config.flen = true := by
  simp [Instr.wellFormed]

namespace Laws.EncodedRow

/-- Every instruction has its row: the lemmas of the family, in the order of the constructors. -/
theorem exists_row (i : Instr) : EncodedRow.Statement i :=
  Instr.casesOn i
    addW subW addiW lu12iW slt sltu slti sltui pcaddu12i mulW mulhW mulhWu divW divWu modW modWu and or nor xor
    andi ori xori sllW srlW sraW slliW srliW sraiW beq bne blt bge bltu bgeu b bl jirl ldB ldH ldW ldBu ldHu stB
    stH stW preld llW scW dbar ibar syscall brk rdcntvlW rdcntvhW rdcntid faddS faddD fsubS fsubD fmulS fmulD fdivS
    fdivD fmaddS fmaddD fmsubS fmsubD fnmaddS fnmaddD fnmsubS fnmsubD fmaxS fmaxD fminS fminD fmaxaS fmaxaD fminaS
    fminaD fabsS fabsD fnegS fnegD fsqrtS fsqrtD frecipS frecipD frsqrtS frsqrtD fcopysignS fcopysignD fclassS
    fclassD fcmpCafS fcmpCunS fcmpCeqS fcmpCueqS fcmpCltS fcmpCultS fcmpCleS fcmpCuleS fcmpCneS fcmpCorS fcmpCuneS
    fcmpSafS fcmpSunS fcmpSeqS fcmpSueqS fcmpSltS fcmpSultS fcmpSleS fcmpSuleS fcmpSneS fcmpSorS fcmpSuneS fcmpCafD
    fcmpCunD fcmpCeqD fcmpCueqD fcmpCltD fcmpCultD fcmpCleD fcmpCuleD fcmpCneD fcmpCorD fcmpCuneD fcmpSafD fcmpSunD
    fcmpSeqD fcmpSueqD fcmpSltD fcmpSultD fcmpSleD fcmpSuleD fcmpSneD fcmpSorD fcmpSuneD fcvtSD fcvtDS ffintSW
    ffintDW ftintWS ftintWD ftintrmWS ftintrmWD ftintrpWS ftintrpWD ftintrzWS ftintrzWD ftintrneWS ftintrneWD fmovS
    fmovD fsel movgr2frW movgr2frhW movfr2grS movfrh2grS movgr2fcsr movfcsr2gr movfr2cf movcf2fr movgr2cf movcf2gr
    bceqz bcnez fldS fldD fstS fstD csrrd csrwr csrxchg cacop tlbsrch tlbrd tlbwr tlbfill invtlb ertn idle

end Laws.EncodedRow

/-! ### The statements about encoding -/

/-- Settles O1: the instruction's own row accepts its word and builds it back (`EncodedRow`), and no other row
accepts it. -/
theorem decodeOfEncode : Obligations.DecodeOfEncode := by
  intro i hwf
  obtain ⟨hfields, hav⟩ := Instr.wellFormed_iff.mp hwf
  obtain ⟨r, hr, haccepts, hbuild⟩ := Laws.EncodedRow.exists_row i
  exact decodeWord_eq_ok_iff.mpr ⟨r, hr, haccepts hfields, hbuild, hav⟩

/-- Settles O2: the encoder undoes the row that accepts the word, whose guard is the constraint on the fields. -/
theorem encodeOfDecode : Obligations.EncodeOfDecode := by
  intro w i h
  obtain ⟨r, hr, hw, rfl, hav⟩ := decodeWord_eq_ok_iff.mp h
  obtain ⟨hfixed, hguard⟩ := OpcodeRow.accepts_iff.mp hw
  have hinv := opcodeRows_inverted hr
  exact ⟨hinv.encode_build w hfixed, Instr.wellFormed_iff.mpr ⟨hinv.guard_eq w ▸ hguard, hav⟩⟩

/-- A word computed from the operands decodes to its instruction. -/
theorem decodeWord_of_encode_eq {w : Word} {i : Instr} (hw : encode i = w) (hwf : i.wellFormed = true) :
    decodeWord w = .ok i := hw ▸ decodeOfEncode i hwf

/-- Settles O4: each word is that of its instruction, which is well-formed. -/
theorem sampleWordsDecode : Obligations.SampleWordsDecode := by
  unfold Obligations.SampleWordsDecode
  and_intros <;> exact decodeWord_of_encode_eq rfl rfl

/-- Settles O5: the decoder rejects a word that no row accepts, and a rejected word raises INE. -/
theorem reservedWordRaisesIne : Obligations.ReservedWordRaisesIne := fun _ _ h =>
  Machine.runWord_rejected (decodeWord_of_not_accepted h)

end Sys2Proof
end

section
/-! SUPPORT. The results of the integer arithmetic instructions as integers: the model computes on words, and each word is
the integer result modulo 2^32; the statements about integer arithmetic: O21, O22 and O23. -/

namespace Sys2Proof

/-! ### Sums, differences, products and quotients of signed values -/

theorem add_eq_ofInt {n : Nat} (a b : BitVec n) : a + b = BitVec.ofInt n (a.toInt + b.toInt) := by
  rw [BitVec.ofInt_add, BitVec.ofInt_toInt, BitVec.ofInt_toInt]

theorem sub_eq_ofInt {n : Nat} (a b : BitVec n) : a - b = BitVec.ofInt n (a.toInt - b.toInt) := by
  rw [Int.sub_eq_add_neg, BitVec.ofInt_add, BitVec.ofInt_neg, BitVec.ofInt_toInt, BitVec.ofInt_toInt,
    BitVec.sub_eq_add_neg]

theorem mul_eq_ofInt {n : Nat} (a b : BitVec n) : a * b = BitVec.ofInt n (a.toInt * b.toInt) := by
  rw [BitVec.ofInt_mul, BitVec.ofInt_toInt, BitVec.ofInt_toInt]

/-- Also for the least integer divided by -1, whose quotient does not fit in `n` bits (R187). -/
theorem sdiv_eq_ofInt {n : Nat} (a b : BitVec n) : a.sdiv b = BitVec.ofInt n (a.toInt.tdiv b.toInt) :=
  BitVec.eq_of_toInt_eq (by rw [BitVec.toInt_sdiv, BitVec.toInt_ofInt])

theorem srem_eq_ofInt {n : Nat} (a b : BitVec n) : a.srem b = BitVec.ofInt n (a.toInt.tmod b.toInt) := by
  rw [← BitVec.toInt_srem, BitVec.ofInt_toInt]

/-- The sum with a sign-extended immediate (R173). -/
theorem add_sext32_eq_ofInt {n : Nat} (a : Word) (v : BitVec n) :
    a + sext32 v = BitVec.ofInt 32 (a.toInt + v.toInt) := by
  rw [BitVec.ofInt_add, BitVec.ofInt_toInt, sext32_eq]

/-! ### Comparisons (R175 to R178) -/

theorem boolWord_decide (p : Prop) [Decidable p] : boolWord (decide p) = if p then 1#32 else 0#32 := by
  simp [boolWord]

theorem sext32_toInt {n : Nat} (v : BitVec n) (h : n ≤ 32) : (sext32 v).toInt = v.toInt :=
  BitVec.toInt_signExtend_of_le h

/-! ### High words of products (R181, R182) -/

namespace Machine

/-- The upper half of an integer's low 64 bits, whether or not the integer fits in them. -/
theorem highWord_ofInt (x : Int) : highWord (BitVec.ofInt 64 x) = BitVec.ofInt 32 (x / 2 ^ 32) := by
  apply BitVec.eq_of_toNat_eq
  rw [highWord, extractLsb'_high_eq, BitVec.toNat_ofNat, BitVec.toNat_ofInt, BitVec.toNat_ofInt]
  omega

theorem highWord_ofNat (x : Nat) : highWord (BitVec.ofNat 64 x) = BitVec.ofNat 32 (x / 2 ^ 32) := by
  rw [← BitVec.ofInt_natCast, highWord_ofInt, ← BitVec.ofInt_natCast]
  rfl

theorem highWord_signed_mul (a b : Word) :
    highWord (a.signExtend 64 * b.signExtend 64) = BitVec.ofInt 32 (a.toInt * b.toInt / 2 ^ 32) := by
  rw [← highWord_ofInt, BitVec.ofInt_mul]
  rfl

theorem highWord_unsigned_mul (a b : Word) :
    highWord (a.setWidth 64 * b.setWidth 64) = BitVec.ofNat 32 (a.toNat * b.toNat / 2 ^ 32) := by
  rw [← highWord_ofNat, BitVec.ofNat_mul, BitVec.ofNat_toNat, BitVec.ofNat_toNat]

/-! ### Upper immediates (R174, R179) -/

theorem upperImmediate_toNat (v : BitVec 20) : (upperImmediate v).toNat = v.toNat * 4096 :=
  calc (v ++ 0#12).toNat
      = v.toNat <<< 12 ||| (0#12).toNat := BitVec.toNat_append v 0#12
    _ = v.toNat * 4096 := by simp [Nat.shiftLeft_eq]

theorem upperImmediate_eq_ofNat (v : BitVec 20) : upperImmediate v = BitVec.ofNat 32 (v.toNat * 4096) := by
  rw [← upperImmediate_toNat, BitVec.ofNat_toNat, BitVec.setWidth_eq]

theorem add_upperImmediate_eq_ofNat (a : Word) (v : BitVec 20) :
    a + upperImmediate v = BitVec.ofNat 32 (a.toNat + v.toNat * 4096) := by
  rw [BitVec.ofNat_add, BitVec.ofNat_toNat, BitVec.setWidth_eq, upperImmediate_eq_ofNat]

/-! ### The end of an integer instruction -/

/-- An instruction that ends in `produce` has the effect of writing its result, in whatever form the result is given. -/
theorem exec_effect_of_produce {i : Instr} {s : State} {rd : RegNum} {v w : Word} (h : exec i s = produce rd v s)
    (hv : v = w) : ∃ t, exec i s = .next t ∧ GprEffect s t rd w (s.pc + 4#32) := by
  subst hv
  rw [h]
  exact produce_effect rd v s

theorem divided_of_ne_zero {op : DivOp} {rd : RegNum} {a b q : Word} {s : State} (hb : b ≠ 0#32) :
    divided op rd a b q s = produce rd q s := by
  rw [divided, if_neg hb]

/-- With a zero divisor too, a dividing instruction completes: it writes some word to `rd` (R188). -/
theorem divided_effect (op : DivOp) (rd : RegNum) (a b q : Word) (s : State) :
    ∃ t v, divided op rd a b q s = .next t ∧ GprEffect s t rd v (s.pc + 4#32) := by
  obtain ⟨t, ht, heff⟩ := produce_effect rd (if b = 0#32 then Config.divByZero op a else q) s
  exact ⟨t, _, ht, heff⟩

/-! ### The statements about integer arithmetic -/

/-- Settles O21: each instruction is `produce` of a word that is the integer result modulo 2^32. -/
theorem addSubCompareResults : Obligations.AddSubCompareResults := by
  intro rd rj rk si12 si20 s
  refine ⟨exec_effect_of_produce rfl (add_eq_ofInt _ _), exec_effect_of_produce rfl (sub_eq_ofInt _ _),
    exec_effect_of_produce rfl (add_sext32_eq_ofInt _ _), exec_effect_of_produce rfl (upperImmediate_eq_ofNat _),
    exec_effect_of_produce rfl (add_upperImmediate_eq_ofNat _ _), exec_effect_of_produce rfl (boolWord_decide _),
    exec_effect_of_produce rfl (boolWord_decide _), exec_effect_of_produce rfl ?slti,
    exec_effect_of_produce rfl (boolWord_decide _)⟩
  case slti => rw [BitVec.slt_eq_decide, boolWord_decide, sext32_toInt si12 (by decide)]

/-- Settles O22: the 64-bit product may be taken modulo 2^64 before its high word is read, `highWord_ofInt`. -/
theorem multiplyResults : Obligations.MultiplyResults := fun _ _ _ _ =>
  ⟨exec_effect_of_produce rfl (mul_eq_ofInt _ _), exec_effect_of_produce rfl (highWord_signed_mul _ _),
    exec_effect_of_produce rfl (highWord_unsigned_mul _ _)⟩

/-- Settles O23: by the divisor; with one other than 0 the instruction is `produce` of its quotient or remainder. -/
theorem divideResults : Obligations.DivideResults := by
  intro rd rj rk s
  refine ⟨fun hk => ?nonzero, fun _ => ?zero⟩
  case nonzero =>
    exact ⟨exec_effect_of_produce (divided_of_ne_zero hk) (sdiv_eq_ofInt _ _),
      exec_effect_of_produce (divided_of_ne_zero hk) BitVec.udiv_def,
      exec_effect_of_produce (divided_of_ne_zero hk) (srem_eq_ofInt _ _),
      exec_effect_of_produce (divided_of_ne_zero hk) BitVec.umod_def⟩
  case zero =>
    simp only [List.forall_mem_cons]
    exact ⟨divided_effect .divW rd _ _ _ s, divided_effect .divWu rd _ _ _ s, divided_effect .modW rd _ _ _ s,
      divided_effect .modWu rd _ _ _ s, List.forall_mem_nil _⟩

end Machine
end Sys2Proof
end

section
/-! SUPPORT. The results of the logic and shift instructions: the bits of a bitwise operation with a zero-extended
immediate, and a shift as the product or quotient by a power of two; the statements about logic and shifts: O24 and
O25. -/

namespace Sys2Proof

/-- The bits above a zero-extended immediate are 0 (R200). -/
theorem zext32_getLsbD {n k : Nat} (v : BitVec n) (hk : k < 32) :
    (zext32 v).getLsbD k = (decide (k < n) && v.getLsbD k) := by
  rw [zext32, BitVec.getLsbD_setWidth, decide_eq_true hk, Bool.true_and]
  by_cases hn : k < n
  case pos => rw [decide_eq_true hn, Bool.true_and]
  case neg => rw [decide_eq_false hn, Bool.false_and, BitVec.getLsbD_of_ge v k (Nat.le_of_not_lt hn)]

namespace Machine

/-! ### Shifts as products and quotients by a power of two (R210) -/

theorem shiftAmount_toNat (v : Word) : (shiftAmount v).toNat = v.toNat % 32 := by
  rw [shiftAmount, ← ofNat_toNat_eq_field, BitVec.toNat_ofNat]

theorem shiftLeft_eq_ofNat (v : Word) (n : BitVec 5) : shiftLeft v n = BitVec.ofNat 32 (v.toNat * 2 ^ n.toNat) :=
  BitVec.eq_of_toNat_eq (by rw [shiftLeft, BitVec.toNat_shiftLeft, Nat.shiftLeft_eq, BitVec.toNat_ofNat])

theorem shiftRightLogical_eq_ofNat (v : Word) (n : BitVec 5) :
    shiftRightLogical v n = BitVec.ofNat 32 (v.toNat / 2 ^ n.toNat) := by
  rw [shiftRightLogical, ← Nat.shiftRight_eq_div_pow, ← BitVec.toNat_ushiftRight, BitVec.ofNat_toNat,
    BitVec.setWidth_eq]

/-- The division rounds down, also for a negative value. -/
theorem shiftRightArith_eq_ofInt (v : Word) (n : BitVec 5) :
    shiftRightArith v n = BitVec.ofInt 32 (v.toInt / 2 ^ n.toNat) := by
  rw [shiftRightArith, BitVec.sshiftRight, Int.shiftRight_eq_div_pow, Int.natCast_pow]
  rfl

/-! ### The end of a bitwise instruction -/

/-- An instruction that ends in `produce` has the effect of writing a word with the bits of its result, in whatever form
the bits are given. -/
theorem exec_bits_of_produce {i : Instr} {s : State} {rd : RegNum} {v : Word} {bit : Nat → Bool}
    (h : exec i s = produce rd v s) (hv : ∀ k, k < 32 → v.getLsbD k = bit k) :
    ∃ t w, exec i s = .next t ∧ GprEffect s t rd w (s.pc + 4#32) ∧ ∀ k, k < 32 → w.getLsbD k = bit k := by
  obtain ⟨t, ht, heff⟩ := exec_effect_of_produce h rfl
  exact ⟨t, v, ht, heff, hv⟩

/-! ### The statements about logic and shifts -/

/-- Settles O24: each instruction is `produce` of the bitwise operation on its operands. -/
theorem logicResults : Obligations.LogicResults := by
  intro rd rj rk ui12 s
  refine ⟨exec_bits_of_produce rfl fun k _ => BitVec.getLsbD_and,
    exec_bits_of_produce rfl fun k _ => BitVec.getLsbD_or, exec_bits_of_produce rfl ?nor,
    exec_bits_of_produce rfl fun k _ => BitVec.getLsbD_xor, exec_bits_of_produce rfl ?andi,
    exec_bits_of_produce rfl ?ori, exec_bits_of_produce rfl ?xori⟩ <;> intro k hk
  case nor => rw [BitVec.getLsbD_not, BitVec.getLsbD_or, decide_eq_true hk, Bool.true_and]
  case andi => rw [BitVec.getLsbD_and, zext32_getLsbD ui12 hk]
  case ori => rw [BitVec.getLsbD_or, zext32_getLsbD ui12 hk]
  case xori => rw [BitVec.getLsbD_xor, zext32_getLsbD ui12 hk]

/-- Settles O25: each instruction is `produce` of a shift by an amount of five bits, which a register gives as its value
modulo 32, `shiftAmount_toNat`. -/
theorem shiftResults : Obligations.ShiftResults := by
  intro rd rj rk ui5 s
  rw [← shiftAmount_toNat]
  exact ⟨exec_effect_of_produce rfl (shiftLeft_eq_ofNat _ _),
    exec_effect_of_produce rfl (shiftRightLogical_eq_ofNat _ _),
    exec_effect_of_produce rfl (shiftRightArith_eq_ofInt _ _), exec_effect_of_produce rfl (shiftLeft_eq_ofNat _ _),
    exec_effect_of_produce rfl (shiftRightLogical_eq_ofNat _ _),
    exec_effect_of_produce rfl (shiftRightArith_eq_ofInt _ _)⟩

end Machine
end Sys2Proof
end

section
/-! SUPPORT. The effect of a conditional branch, with its condition as a proposition; the statement about conditional
branches: O26. -/

namespace Sys2Proof.Machine

/-! ### Comparisons that fail (R234, R236) -/

theorem not_slt_iff_toInt_le {n : Nat} (a b : BitVec n) : (!a.slt b) = true ↔ b.toInt ≤ a.toInt := by
  rw [← BitVec.sle_eq_not_slt, BitVec.sle_iff_toInt_le]

theorem not_ult_iff_toNat_le {n : Nat} (a b : BitVec n) : (!a.ult b) = true ↔ b.toNat ≤ a.toNat := by
  rw [← BitVec.ule_eq_not_ult, BitVec.ule_iff_toNat_le]

/-! ### The end of a conditional branch (R230) -/

theorem branchIf_effect {n : Nat} {taken : Bool} {p : Prop} [Decidable p] (hp : taken = true ↔ p) (offs : BitVec n)
    (s : State) :
    PcEffect s (s.branchIf taken offs) (if p then s.pc + BitVec.ofInt 32 (4 * offs.toInt) else s.pc + 4#32) := by
  rw [State.branchIf, State.branchTarget, scaled_eq, if_congr hp rfl rfl]
  exact setPc_effect _ s

/-- An instruction that ends in `branchIf` moves the program counter alone, by its condition in whatever form it is
given. -/
theorem exec_effect_of_branchIf {n : Nat} {i : Instr} {s : State} {taken : Bool} {offs : BitVec n} {p : Prop}
    [Decidable p] (h : exec i s = .next (s.branchIf taken offs)) (hp : taken = true ↔ p) :
    ∃ t, exec i s = .next t ∧
      PcEffect s t (if p then s.pc + BitVec.ofInt 32 (4 * offs.toInt) else s.pc + 4#32) :=
  ⟨_, h, branchIf_effect hp offs s⟩

/-! ### The statement about conditional branches -/

/-- Settles O26: each instruction is `branchIf` of the Boolean form of its comparison. -/
theorem conditionalBranches : Obligations.ConditionalBranches := fun _ _ _ _ =>
  ⟨exec_effect_of_branchIf rfl beq_iff_eq, exec_effect_of_branchIf rfl bne_iff_ne,
    exec_effect_of_branchIf rfl BitVec.slt_iff_toInt_lt, exec_effect_of_branchIf rfl (not_slt_iff_toInt_le _ _),
    exec_effect_of_branchIf rfl BitVec.ult_iff_toNat_lt, exec_effect_of_branchIf rfl (not_ult_iff_toNat_le _ _)⟩

end Sys2Proof.Machine
end

section
/-! SUPPORT. LL.W and the store of another agent, in the terms of the statements: O31 and O54. -/

namespace Sys2Proof.Machine

/-! ### LL.W (R270, R273) -/

/-- What is written to one general register does not depend on how many free values were drawn. -/
theorem GprEffect.drawn {s t : State} {rd : RegNum} {v pc : Word} (h : GprEffect s t rd v pc) (k : Nat) :
    GprEffect s (t.drawn k) rd v pc := { h with }

/-- LL.W, whichever of its two meanings: some value goes to `rd` and some value to LLbit, the physical address is recorded,
`k` free values are drawn. -/
def afterLoadLinked (rd : RegNum) (v : Word) (b : Bool) (pa : PAddr) (k : Nat) (s : State) : State :=
  ((((s.setReg rd v).setLlbit b).setLladdr pa).drawn k).advance

theorem loadLinked_eq (rd : RegNum) (pa : PAddr) (s : State) :
    loadLinked rd pa s = afterLoadLinked rd (BitVec.ofNat 32 (s.mem.load pa.toNat 4)) true pa 0 s := rfl

theorem loadLinkedUncached_eq (rd : RegNum) (pa : PAddr) (s : State) :
    loadLinkedUncached rd pa s =
      afterLoadLinked rd (Config.freeWord s.draws) (Config.freeBit s.draws) pa 1 s := rfl

/-- Beside the reservation LL.W writes one general register. -/
theorem afterLoadLinked_effect (rd : RegNum) (v : Word) (b : Bool) (pa : PAddr) (k : Nat) (s : State) :
    GprEffect s { afterLoadLinked rd v b pa k s with llbit := s.llbit, lladdr := s.lladdr } rd v (s.pc + 4#32) :=
  (setReg_setPc_effect rd v (s.pc + 4#32) s).drawn k

theorem exec_llW_of_reaches {s : State} {rj : RegNum} {o : BitVec 14} {pa : PAddr} {mat : BitVec 2} (rd : RegNum)
    (h : Reaches s .load 4 (vaddr4 s rj o) pa mat) :
    exec (.llW rd rj o) s = .next (if mat = 1#2 then loadLinked rd pa s else loadLinkedUncached rd pa s) := by
  rw [← scaledAddress_eq_vaddr4] at h
  refine (accessing_of_reaches h).trans ?_
  simp [isCached]

/-- Settles O31: both meanings of LL.W are `afterLoadLinked`, the cached one with the word in memory and LLbit set. -/
theorem loadLinked_spec : Obligations.LoadLinked := by
  intro rd rj o s pa mat h
  rw [exec_llW_of_reaches rd h]
  by_cases hm : mat = 1#2
  case pos =>
    rw [if_pos hm, loadLinked_eq]
    exact ⟨_, _, true, rfl, fun _ => ⟨rfl, s.mem.load_word pa.toNat⟩, rfl, fun _ => rfl, afterLoadLinked_effect ..⟩
  case neg =>
    rw [if_neg hm, loadLinkedUncached_eq]
    exact ⟨_, _, _, rfl, fun hm' => absurd hm' hm, rfl, fun hm' => absurd hm' hm, afterLoadLinked_effect ..⟩

/-! ### The store of another agent (R102, R272) -/

theorem agentStep_externalStore_inside {s : State} {pa : PAddr} {bytes : List Byte}
    (h : pa.toNat + bytes.length ≤ 2 ^ Config.palen) :
    agentStep (.externalStore pa bytes) s = .next (externalStore s pa bytes) := if_pos h

theorem agentStep_externalStore_outside {s : State} {pa : PAddr} {bytes : List Byte}
    (h : 2 ^ Config.palen < pa.toNat + bytes.length) :
    agentStep (.externalStore pa bytes) s = .fault .outsideAddressSpace := if_neg (Nat.not_le.mpr h)

/-- A line holds whole words, whatever its size. -/
theorem sameLine_of_sameWord {a b : Nat} (h : a / 4 = b / 4) : sameLine a b = true := by
  simp [sameLine, h]

section
variable (s : State) (pa : PAddr) (bytes : List Byte)

theorem externalStore_read_inside {i : Nat} (h : i < bytes.length) :
    (externalStore s pa bytes).mem.read (pa.toNat + i) = bytes[i] := by
  show (s.mem.writeBytes pa.toNat bytes).read (pa.toNat + i) = bytes[i]
  rw [Memory.read_writeBytes, dif_pos (by omega)]
  simp only [Nat.add_sub_cancel_left]

theorem externalStore_read_outside {a : Nat} (h : a < pa.toNat ∨ pa.toNat + bytes.length ≤ a) :
    (externalStore s pa bytes).mem.read a = s.mem.read a := by
  show (s.mem.writeBytes pa.toNat bytes).read a = s.mem.read a
  rw [Memory.read_writeBytes, dif_neg (by omega)]

theorem externalStore_stale :
    (externalStore s pa bytes).stale = overwritten s.mem pa.toNat bytes.length false ++ s.stale := rfl

theorem externalStore_oldValues_inside {i : Nat} (h : i < bytes.length) :
    oldValues (externalStore s pa bytes) (pa.toNat + i) =
      s.mem.read (pa.toNat + i) :: oldValues s (pa.toNat + i) := by
  rw [oldValues, externalStore_stale, List.filter_append, List.map_append, filter_overwritten, if_pos (by omega)]
  rfl

theorem externalStore_stale_outside {a : Nat} (h : a < pa.toNat ∨ pa.toNat + bytes.length ≤ a) :
    (externalStore s pa bytes).stale.filter (fun b => b.addr == a) = s.stale.filter (fun b => b.addr == a) := by
  rw [externalStore_stale, List.filter_append, filter_overwritten, if_neg (by omega)]
  rfl

/-- LLbit survives exactly when it was 1 and no byte stored lies in the reserved line (R272). -/
theorem externalStore_llbit_iff :
    (externalStore s pa bytes).llbit = true ↔
      s.llbit = true ∧ ∀ i < bytes.length, sameLine (pa.toNat + i) s.lladdr.toNat = false := by
  simp [externalStore]

end

theorem externalStore_llbit_of_sameWord {s : State} {pa : PAddr} {bytes : List Byte} {i : Nat} (hi : i < bytes.length)
    (h : (pa.toNat + i) / 4 = s.lladdr.toNat / 4) : (externalStore s pa bytes).llbit = false := by
  rw [Bool.eq_false_iff, Ne, externalStore_llbit_iff]
  rintro ⟨-, hfar⟩
  exact absurd (sameLine_of_sameWord h) (by simp [hfar i hi])

theorem externalStore_llbit_of_clear {s : State} {pa : PAddr} {bytes : List Byte} (h : s.llbit = false) :
    (externalStore s pa bytes).llbit = false := by
  rw [Bool.eq_false_iff, Ne, externalStore_llbit_iff]
  simp [h]

theorem externalStore_llbit_nil (s : State) (pa : PAddr) : (externalStore s pa []).llbit = s.llbit := by
  rw [Bool.eq_iff_iff, externalStore_llbit_iff]
  simp

/-- Settles O54: the store is one `externalStore` where it ends in the address space, and its parts are read off one by
one. -/
theorem externalStore_spec : Obligations.ExternalStore := by
  intro s pa bytes
  refine ⟨fun h => ⟨_, agentStep_externalStore_inside h, ?_⟩, agentStep_externalStore_outside, rfl⟩
  exact ⟨fun _ => externalStore_read_inside s pa bytes, fun _ => externalStore_read_outside s pa bytes,
    fun _ => externalStore_oldValues_inside s pa bytes, fun _ => externalStore_stale_outside s pa bytes,
    fun ⟨_, hi, hw⟩ => externalStore_llbit_of_sameWord hi hw, fun hb => hb ▸ externalStore_llbit_nil s pa,
    externalStore_llbit_of_clear, rfl⟩

end Sys2Proof.Machine
end

section
/-! SUPPORT. The comparisons as one operation, and the operations on the sign bit and the class in terms of the halves of a
register; the statements O37 and O39. -/

namespace Sys2Proof.Machine

/-! ### Comparisons (R360 to R362) -/

/-- FCSR0 and a condition flag written. -/
theorem setFlag_effect (w : Word) (cd : FlagNum) (b : Bool) (s : State) :
    FlagEffect s ((s.setFcsr w).setFlag cd b).advance cd b w where
  result := by simp [State.flag_setFlag]
  others n hn := by simp [State.flag_setFlag, hn]
  pc := rfl
  gpr _ := rfl
  fpr _ := rfl
  fcsr := rfl
  memory _ := rfl
  stale := rfl
  system := ⟨rfl, rfl, rfl, rfl, rfl, rfl, rfl, rfl⟩

/-- A row of the table of comparisons is FCMP with a condition, whose bits name the relations of the row and whether a
quiet NaN signals. -/
def IsComparison (p : (FlagNum → RegNum → RegNum → Instr) × FpFormat × List FpRel × Bool) : Prop :=
  ∃ cond : BitVec 5,
    (∀ (cd : FlagNum) (fj fk : RegNum) (s : State), exec (p.1 cd fj fk) s = fpCompareFlag p.2.1 cond cd fj fk s) ∧
      cond.getLsbD 0 = p.2.2.2 ∧ ∀ rel, condHolds cond rel = decide (rel ∈ p.2.2.1)

theorem IsComparison.intro {i : FlagNum → RegNum → RegNum → Instr} {f : FpFormat} {l : List FpRel} {b : Bool}
    (cond : BitVec 5)
    (hi : ∀ (cd : FlagNum) (fj fk : RegNum) (s : State), exec (i cd fj fk) s = fpCompareFlag f cond cd fj fk s)
    (hb : cond.getLsbD 0 = b) (hc : ∀ rel ∈ [FpRel.lt, .eq, .gt, .un], condHolds cond rel = decide (rel ∈ l)) :
    IsComparison (i, f, l, b) :=
  ⟨cond, hi, hb, fun rel => hc rel (by cases rel <;> decide)⟩

theorem compareTable_isComparison : ∀ p ∈ compareTable, IsComparison p := by
  simp only [compareTable, List.forall_mem_cons, List.not_mem_nil, false_implies, implies_true, and_true]
  and_intros
  all_goals exact .intro _ (fun _ _ _ _ => rfl) (by decide) (by decide)

theorem compareSignals_eq (f : FpFormat) (b : Bool) (x y : Nat) :
    compareSignals f b x y =
      if isSignalling f x ∨ isSignalling f y ∨ (b = true ∧ (isNan f x ∨ isNan f y)) then 16#5 else 0#5 := by
  simp only [compareSignals, Bool.or_eq_true, Bool.and_eq_true, or_assoc]
  rfl

/-- Settles O37: a comparison is `fpCompareFlag`, which ends as every arithmetic instruction does. -/
theorem fpCompareResults : Obligations.FpCompareResults := by
  intro p hp cd fj fk s x y sig hf
  obtain ⟨cond, hexec, hsignalling, hrel⟩ := compareTable_isComparison p hp
  have hrun : exec (p.1 cd fj fk) s =
      fpComplete sig s (fun t => t.setFlag cd (decide (fpCompare p.2.1 x y ∈ p.2.2.1))) := by
    rw [hexec, fpCompareFlag, whenFpEnabled_yes hf, hrel, compareSignals_eq, hsignalling, fpOperand_eq_patternOf,
      fpOperand_eq_patternOf]
  rw [hrun]
  exact ⟨fun hq => ⟨_, _, fpComplete_quiet hq, fcsrAccrued_after _ _, setFlag_effect _ cd _ s⟩,
    fun hq => ⟨_, fcsrWithCause_trapped _ _, fpComplete_trap hq⟩⟩

/-! ### Operations on the bits of a pattern (R325 to R328, R335 to R339, R346) -/

/-- An operation on the bits writes its result and leaves FCSR0. -/
theorem fpCopy_single_effect {s : State} (hf : s.csr.fpe = true) (fd : RegNum) (bits : Nat) :
    ∃ t, fpCopy .single fd bits s = .next t ∧ FprEffect s t fd (BitVec.ofNat 32 bits) none s.fcsr :=
  ⟨_, whenFpEnabled_yes hf, setFregLow_effect s.fcsr fd _ s⟩

theorem fpCopy_double_effect {s : State} (hf : s.csr.fpe = true) (fd : RegNum) (bits : Nat) :
    ∃ t, fpCopy .double fd bits s = .next t ∧
      FprEffect s t fd (BitVec.ofNat 32 bits) (some (BitVec.ofNat 32 (bits / 2 ^ 32))) s.fcsr :=
  ⟨_, whenFpEnabled_yes hf, setFreg_effect s.fcsr fd (.ofDoubleBits bits) s⟩

theorem getLsbD_31_eq (w : Word) : w.getLsbD 31 = (w.toNat / 2 ^ 31 % 2 == 1) :=
  Nat.testBit_eq_decide_div_mod_eq

theorem signOf_single (s : State) (r : RegNum) : signOf .single (s.fpOperand .single r) = (s.freg r).lo.getLsbD 31 :=
  (getLsbD_31_eq _).symm

theorem signOf_double (s : State) (r : RegNum) : signOf .double (s.fpOperand .double r) = (s.freg r).hi.getLsbD 31 := by
  have hlo := (s.freg r).lo.isLt
  have hquot : patternOf s .double r / 2 ^ 63 = (s.freg r).hi.toNat / 2 ^ 31 := by
    show ((s.freg r).hi.toNat * 2 ^ 32 + (s.freg r).lo.toNat) / 2 ^ 63 = _
    omega
  rw [fpOperand_eq_patternOf, getLsbD_31_eq, ← hquot]
  rfl

theorem toNat_setBit_31 (w : Word) (b : Bool) :
    (setBit w 31 b).toNat = (if b then 2 ^ 31 else 0) + w.toNat % 2 ^ 31 := by
  have hsplit : setBit w 31 b = BitVec.ofBool b ++ w.extractLsb' 0 31 := by
    apply BitVec.eq_of_getLsbD_eq
    intro i hi
    have hbit : (setBit w 31 b).getLsbD i = if i = 31 then b else w.getLsbD i := bit_setBit w 31 b i (by decide)
    rw [hbit, BitVec.getLsbD_append]
    by_cases h : i = 31
    · simp [h]
    · simp [h, show i < 31 by omega]
  rw [hsplit, BitVec.toNat_append, ← Nat.shiftLeft_add_eq_or_of_lt (BitVec.isLt _), Nat.shiftLeft_eq]
  cases b <;> simp

/-- The patterns with the sign bit replaced, in single format: bit 31 of the register. -/
theorem ofNat_withSign_single (s : State) (r : RegNum) (b : Bool) :
    BitVec.ofNat 32 (withSign .single b (magnitudeOf .single (s.fpOperand .single r))) =
      setBit (s.freg r).lo 31 b := by
  apply BitVec.eq_of_toNat_eq
  rw [toNat_setBit_31]
  show ((if b then 2 ^ 31 else 0) + (s.freg r).lo.toNat % 2 ^ 31) % 2 ^ 32 = _
  cases b <;> simp <;> omega

/-- In double format bit 31 of the high half, the low half as it was. -/
theorem withSign_double_eq (s : State) (r : RegNum) (b : Bool) :
    withSign .double b (magnitudeOf .double (s.fpOperand .double r)) =
      (setBit (s.freg r).hi 31 b).toNat * 2 ^ 32 + (s.freg r).lo.toNat := by
  have hlo := (s.freg r).lo.isLt
  rw [fpOperand_eq_patternOf, toNat_setBit_31]
  show (if b then 2 ^ 63 else 0) + ((s.freg r).hi.toNat * 2 ^ 32 + (s.freg r).lo.toNat) % 2 ^ 63 = _
  cases b <;> simp only [if_true, Bool.false_eq_true, if_false] <;> omega

theorem ofNat_withSign_double (s : State) (r : RegNum) (b : Bool) :
    let bits := withSign .double b (magnitudeOf .double (s.fpOperand .double r))
    BitVec.ofNat 32 bits = (s.freg r).lo ∧ BitVec.ofNat 32 (bits / 2 ^ 32) = setBit (s.freg r).hi 31 b := by
  have hlo := (s.freg r).lo.isLt
  have hhi := (setBit (s.freg r).hi 31 b).isLt
  simp only [withSign_double_eq]
  constructor <;> apply BitVec.eq_of_toNat_eq <;> rw [BitVec.toNat_ofNat] <;> omega

/-- FABS is the sign bit 0. -/
theorem fpAbs_eq_withSign (f : FpFormat) (x : Nat) : fpAbs f x = withSign f false (magnitudeOf f x) :=
  (Nat.zero_add _).symm

/-! ### Classes (R339) -/

theorem classBit_eq_classNumber (f : FpFormat) (x : Nat) :
    classBit f x =
      classNumber (signOf f x) (2 ^ expBits f - 1) (expField f x) (fracField f x) (quietWeight f) := by
  have hfrac : fracField f x < 2 ^ fracBits f := Nat.mod_lt _ (by positivity)
  rw [classBit, classNumber, unpack]
  by_cases hmax : expField f x = 2 ^ expBits f - 1
  · rw [if_pos hmax, if_pos hmax]
    by_cases h0 : fracField f x = 0 <;> simp [h0]
  · rw [if_neg hmax, if_neg hmax]
    by_cases hexp : expField f x = 0 <;> simp [hexp, hfrac]

theorem classNumber_lt (sign : Bool) (m e k q : Nat) : classNumber sign m e k q < 10 := by
  unfold classNumber
  split_ifs <;> omega

theorem field_toNat (w : Word) (lo n : Nat) : (field w lo n).toNat = w.toNat / 2 ^ lo % 2 ^ n := by
  rw [field, BitVec.extractLsb'_toNat, Nat.shiftRight_eq_div_pow]

theorem fpClass_single (s : State) (r : RegNum) :
    fpClass .single (s.fpOperand .single r) =
      2 ^ classNumber ((s.freg r).lo.getLsbD 31) 255 (field (s.freg r).lo 23 8).toNat (field (s.freg r).lo 0 23).toNat
        (2 ^ 22) := by
  rw [fpClass, classBit_eq_classNumber, signOf_single, field_toNat, field_toNat, Nat.pow_zero, Nat.div_one]
  rfl

theorem fpClass_double (s : State) (r : RegNum) :
    fpClass .double (s.fpOperand .double r) =
      2 ^ classNumber ((s.freg r).hi.getLsbD 31) 2047 (field (s.freg r).hi 20 11).toNat
        ((field (s.freg r).hi 0 20).toNat * 2 ^ 32 + (s.freg r).lo.toNat) (2 ^ 51) := by
  have hlo := (s.freg r).lo.isLt
  have hexp : expField .double (patternOf s .double r) = (s.freg r).hi.toNat / 2 ^ 20 % 2 ^ 11 := by
    show ((s.freg r).hi.toNat * 2 ^ 32 + (s.freg r).lo.toNat) / 2 ^ 52 % 2 ^ 11 = _
    omega
  have hfrac : fracField .double (patternOf s .double r) =
      (s.freg r).hi.toNat % 2 ^ 20 * 2 ^ 32 + (s.freg r).lo.toNat := by
    show ((s.freg r).hi.toNat * 2 ^ 32 + (s.freg r).lo.toNat) % 2 ^ 52 = _
    omega
  rw [fpClass, classBit_eq_classNumber, signOf_double, field_toNat, field_toNat, Nat.pow_zero, Nat.div_one,
    fpOperand_eq_patternOf, hexp, hfrac]
  rfl

/-- A class vector has no bit above the low half. -/
theorem ofNat_classBit_high (f : FpFormat) (x : Nat) : BitVec.ofNat 32 (fpClass f x / 2 ^ 32) = 0#32 := by
  have hlt : fpClass f x < 2 ^ 32 := by
    rw [fpClass, classBit_eq_classNumber]
    exact Nat.pow_lt_pow_right (by decide) (Nat.lt_of_lt_of_le (classNumber_lt ..) (by decide))
  rw [Nat.div_eq_of_lt hlt]

/-- Settles O39: each operation is `fpCopy` of a pattern with its sign replaced, or of a class vector. -/
theorem fpSignAndClassResults : Obligations.FpSignAndClassResults := by
  intro fd fj fk s hf lo hi sS sD
  have hsingle (b : Bool) {bits : Nat}
      (hbits : bits = withSign .single b (magnitudeOf .single (s.fpOperand .single fj))) :
      ∃ t, fpCopy .single fd bits s = .next t ∧ FprEffect s t fd (setBit (s.freg fj).lo 31 b) none s.fcsr := by
    rw [hbits, ← ofNat_withSign_single]
    exact fpCopy_single_effect hf fd _
  have hdouble (b : Bool) {bits : Nat}
      (hbits : bits = withSign .double b (magnitudeOf .double (s.fpOperand .double fj))) :
      ∃ t, fpCopy .double fd bits s = .next t ∧
        FprEffect s t fd (s.freg fj).lo (some (setBit (s.freg fj).hi 31 b)) s.fcsr := by
    obtain ⟨hlow, hhigh⟩ := ofNat_withSign_double s fj b
    rw [hbits, ← hhigh, ← hlow]
    exact fpCopy_double_effect hf fd _
  refine ⟨?absS, ?negS, ?copysignS, ?absD, ?negD, ?copysignD, ?classS, ?classD⟩
  case absS => exact hsingle false (fpAbs_eq_withSign _ _)
  case negS => exact hsingle _ (congrArg (fun b => withSign .single (!b) _) (signOf_single s fj))
  case copysignS => exact hsingle _ (congrArg (fun b => withSign .single b _) (signOf_single s fk))
  case absD => exact hdouble false (fpAbs_eq_withSign _ _)
  case negD => exact hdouble _ (congrArg (fun b => withSign .double (!b) _) (signOf_double s fj))
  case copysignD => exact hdouble _ (congrArg (fun b => withSign .double b _) (signOf_double s fk))
  case classS =>
    rw [← fpClass_single]
    exact fpCopy_single_effect hf fd _
  case classD =>
    rw [← fpClass_double, ← ofNat_classBit_high .double (s.fpOperand .double fj)]
    exact fpCopy_double_effect hf fd _

end Sys2Proof.Machine
end

section
/-! SUPPORT. Patterns as numbers: the fields of a pattern built from a sign and a magnitude, the value of a magnitude, which
grows with it, and the values next to overflow. -/

namespace Sys2Proof.Machine

/-! ### Fields of a pattern (R341) -/

theorem signWeight_eq (f : FpFormat) : signWeight f = 2 ^ fracBits f * 2 ^ expBits f := by
  rw [signWeight, pow_add, Nat.mul_comm]

theorem signWeight_pos (f : FpFormat) : 0 < signWeight f := by
  rw [signWeight]
  positivity

theorem infPattern_lt_signWeight (f : FpFormat) : infPattern f < signWeight f := by
  cases f <;> decide

theorem two_pow_fracBits_even (f : FpFormat) : 2 ^ fracBits f % 2 = 0 := by
  cases f <;> decide

theorem magnitudeOf_lt (f : FpFormat) (x : Nat) : magnitudeOf f x < signWeight f := Nat.mod_lt _ (signWeight_pos f)

theorem expField_eq_magnitudeOf_div (f : FpFormat) (x : Nat) : expField f x = magnitudeOf f x / 2 ^ fracBits f := by
  rw [expField, magnitudeOf, signWeight_eq, Nat.mod_mul_right_div_self]

theorem fracField_eq_magnitudeOf_mod (f : FpFormat) (x : Nat) : fracField f x = magnitudeOf f x % 2 ^ fracBits f := by
  rw [fracField, magnitudeOf, signWeight_eq, Nat.mod_mod_of_dvd _ (Nat.dvd_mul_right ..)]

section
variable (f : FpFormat) (neg : Bool) {mag : Nat} (h : mag < signWeight f)
include h

theorem withSign_lt : withSign f neg mag < 2 * signWeight f := by
  rw [withSign]
  split <;> omega

@[simp] theorem signOf_withSign : signOf f (withSign f neg mag) = neg := by
  have hlow : mag / signWeight f = 0 := Nat.div_eq_of_lt h
  cases neg <;> simp [signOf, withSign, hlow, Nat.add_div_left _ (signWeight_pos f)]

@[simp] theorem magnitudeOf_withSign : magnitudeOf f (withSign f neg mag) = mag := by
  cases neg <;> simp [magnitudeOf, withSign, Nat.mod_eq_of_lt h]

end

theorem withSign_even (f : FpFormat) (neg : Bool) (mag : Nat) : withSign f neg mag % 2 = mag % 2 := by
  have : signWeight f % 2 = 0 := by cases f <;> decide
  rw [withSign]
  split <;> omega

/-- The value of a pattern by its sign and its magnitude. -/
theorem unpack_eq (f : FpFormat) (x : Nat) : unpack f x =
    let mag := magnitudeOf f x
    if mag / 2 ^ fracBits f = 2 ^ expBits f - 1 then
      if mag % 2 ^ fracBits f = 0 then .inf (signOf f x) else .nan (mag % 2 ^ fracBits f < quietWeight f)
    else if mag / 2 ^ fracBits f = 0 then .fin (signOf f x) (mag % 2 ^ fracBits f) (minQuantum f)
    else .fin (signOf f x) (2 ^ fracBits f + mag % 2 ^ fracBits f)
      (minQuantum f + (mag / 2 ^ fracBits f : Nat) - 1) := by
  simp only [unpack, expField_eq_magnitudeOf_div, fracField_eq_magnitudeOf_mod]

/-! ### The value of a magnitude -/

/-- The number a magnitude pattern stands for, were there no greatest exponent. -/
def magValue (f : FpFormat) (mag : Nat) : ℚ :=
  if mag / 2 ^ fracBits f = 0 then (mag % 2 ^ fracBits f : Nat) * 2 ^ minQuantum f
  else (2 ^ fracBits f + mag % 2 ^ fracBits f : Nat) * 2 ^ (minQuantum f + (mag / 2 ^ fracBits f : Nat) - 1)

/-- The factor a sign stands for. -/
def unitSign (neg : Bool) : ℚ := if neg then -1 else 1

@[simp] theorem unitSign_false : unitSign false = 1 := rfl

@[simp] theorem unitSign_true : unitSign true = -1 := rfl

theorem magnitude_lt_infPattern_iff {f : FpFormat} {mag : Nat} :
    mag < infPattern f ↔ mag / 2 ^ fracBits f < 2 ^ expBits f - 1 := by
  rw [infPattern, Nat.div_lt_iff_lt_mul (by positivity)]

/-- A magnitude below infinity's is a finite value. -/
theorem unpack_of_lt {f : FpFormat} {x : Nat} (h : magnitudeOf f x < infPattern f) :
    ∃ m e, unpack f x = .fin (signOf f x) m e ∧ (m : ℚ) * 2 ^ e = magValue f (magnitudeOf f x) := by
  have hexp := (magnitude_lt_infPattern_iff.mp h).ne
  rw [unpack_eq, magValue]
  by_cases h0 : magnitudeOf f x / 2 ^ fracBits f = 0
  · exact ⟨_, _, (if_neg hexp).trans (if_pos h0), by rw [if_pos h0]⟩
  · exact ⟨_, _, (if_neg hexp).trans (if_neg h0), by rw [if_neg h0]⟩

theorem unpack_of_eq {f : FpFormat} {x : Nat} (h : magnitudeOf f x = infPattern f) : unpack f x = .inf (signOf f x) := by
  rw [unpack_eq, h]
  simp [infPattern]

/-- A magnitude above infinity's is a NaN. -/
theorem unpack_of_gt {f : FpFormat} {x : Nat} (h : infPattern f < magnitudeOf f x) :
    unpack f x = .nan (magnitudeOf f x % 2 ^ fracBits f < quietWeight f) := by
  have hlt : magnitudeOf f x / 2 ^ fracBits f < 2 ^ expBits f := by
    rw [Nat.div_lt_iff_lt_mul (by positivity), Nat.mul_comm, ← signWeight_eq]
    exact magnitudeOf_lt f x
  have hexp : magnitudeOf f x / 2 ^ fracBits f = 2 ^ expBits f - 1 := by
    have := magnitude_lt_infPattern_iff.not.mp h.le.not_gt
    omega
  have hfrac : magnitudeOf f x % 2 ^ fracBits f ≠ 0 := by
    intro h0
    have := Nat.div_add_mod (magnitudeOf f x) (2 ^ fracBits f)
    rw [hexp, h0, Nat.mul_comm] at this
    rw [infPattern] at h
    omega
  rw [unpack_eq]
  simp only [if_pos hexp, if_neg hfrac]

theorem valueOf_of_lt {f : FpFormat} {x : Nat} (h : magnitudeOf f x < infPattern f) :
    valueOf f x = some (unitSign (signOf f x) * magValue f (magnitudeOf f x)) := by
  obtain ⟨m, e, hx, hv⟩ := unpack_of_lt h
  rw [valueOf, hx, ← hv, ← mul_assoc]
  rfl

/-- The finite patterns are those of a magnitude below infinity's. -/
theorem valueOf_eq_some_iff {f : FpFormat} {x : Nat} {a : ℚ} : valueOf f x = some a ↔
    magnitudeOf f x < infPattern f ∧ a = unitSign (signOf f x) * magValue f (magnitudeOf f x) := by
  rcases lt_trichotomy (magnitudeOf f x) (infPattern f) with h | h | h
  · simp [valueOf_of_lt h, h, eq_comm]
  · simp [valueOf, unpack_of_eq h, h, FpVal.toRat]
  · simp [valueOf, unpack_of_gt h, h.le.not_gt, FpVal.toRat]

theorem valueOf_withSign {f : FpFormat} {mag : Nat} (neg : Bool) (h : mag < infPattern f) :
    valueOf f (withSign f neg mag) = some (unitSign neg * magValue f mag) := by
  have hs := h.trans (infPattern_lt_signWeight f)
  rw [valueOf_of_lt (by rwa [magnitudeOf_withSign f neg hs]), signOf_withSign f neg hs, magnitudeOf_withSign f neg hs]

theorem unpack_withSign_infPattern (f : FpFormat) (neg : Bool) : unpack f (withSign f neg (infPattern f)) = .inf neg := by
  have hs := infPattern_lt_signWeight f
  rw [unpack_of_eq (magnitudeOf_withSign f neg hs), signOf_withSign f neg hs]

/-! ### Magnitudes are ordered as their values -/

/-- A magnitude of `n` units of `2^q`, up to and including the next power of two. -/
theorem magValue_magnitudePattern {f : FpFormat} {n : Nat} {q : Int} (hq : minQuantum f ≤ q)
    (hn : n ≤ 2 ^ (fracBits f + 1)) (hnorm : q = minQuantum f ∨ 2 ^ fracBits f ≤ n) :
    magValue f (magnitudePattern f n q) = n * 2 ^ q := by
  obtain ⟨j, rfl⟩ := Int.le.dest hq
  have hpos : 0 < 2 ^ fracBits f := by positivity
  have hj : (minQuantum f + (j : Int) - minQuantum f).toNat = j := by omega
  have hdiv : magnitudePattern f n (minQuantum f + j) / 2 ^ fracBits f = n / 2 ^ fracBits f + j := by
    rw [magnitudePattern, hj, Nat.add_mul_div_right _ _ hpos]
  have hmod : magnitudePattern f n (minQuantum f + j) % 2 ^ fracBits f = n % 2 ^ fracBits f := by
    rw [magnitudePattern, hj, Nat.add_mul_mod_self_right]
  rw [magValue, hdiv, hmod]
  rcases Nat.lt_or_ge n (2 ^ fracBits f) with hlt | hge
  · have hj0 : j = 0 := by omega
    subst hj0
    simp [Nat.div_eq_of_lt hlt, Nat.mod_eq_of_lt hlt]
  rcases Nat.lt_or_ge n (2 * 2 ^ fracBits f) with hlt2 | hge2
  · have hd : n / 2 ^ fracBits f = 1 := by
      rw [Nat.div_eq_iff (by positivity)]
      omega
    have hm : 2 ^ fracBits f + n % 2 ^ fracBits f = n := by
      have := Nat.div_add_mod n (2 ^ fracBits f)
      rwa [hd, Nat.mul_one] at this
    rw [if_neg (by omega), hm, hd]
    congr 2
    omega
  · have hn2 : n = 2 ^ fracBits f * 2 := by
      rw [pow_succ] at hn
      omega
    have hd : n / 2 ^ fracBits f = 2 := by rw [hn2, Nat.mul_div_cancel_left _ hpos]
    have hm : n % 2 ^ fracBits f = 0 := by rw [hn2, Nat.mul_mod_right]
    have hexp : minQuantum f + ((2 + j : Nat) : Int) - 1 = 1 + (minQuantum f + j) := by omega
    rw [if_neg (by omega), hm, hd, hexp, zpow_add₀ (by norm_num), hn2]
    push_cast
    ring

/-- Every magnitude is a number of units with another unit to the next one. -/
theorem exists_magnitudePattern_eq (f : FpFormat) (g : Nat) : ∃ n q, minQuantum f ≤ q ∧ n < 2 ^ (fracBits f + 1) ∧
    (q = minQuantum f ∨ 2 ^ fracBits f ≤ n) ∧ magnitudePattern f n q = g := by
  have hpos : 0 < 2 ^ fracBits f := by positivity
  have hlt := Nat.mod_lt g hpos
  have hsplit := Nat.div_add_mod' g (2 ^ fracBits f)
  cases hj : g / 2 ^ fracBits f with
  | zero =>
    rw [hj] at hsplit
    exact ⟨g, minQuantum f, le_rfl, by rw [pow_succ]; omega, .inl rfl, by simp [magnitudePattern]⟩
  | succ j =>
    rw [hj, Nat.succ_mul] at hsplit
    refine ⟨2 ^ fracBits f + g % 2 ^ fracBits f, minQuantum f + j, by omega, by rw [pow_succ]; omega,
      .inr (Nat.le_add_right ..), ?_⟩
    have : (minQuantum f + (j : Int) - minQuantum f).toNat = j := by omega
    rw [magnitudePattern, this]
    omega

theorem magValue_lt_succ (f : FpFormat) (g : Nat) : magValue f g < magValue f (g + 1) := by
  obtain ⟨n, q, hq, hn, hnorm, rfl⟩ := exists_magnitudePattern_eq f g
  have hsucc : magnitudePattern f n q + 1 = magnitudePattern f (n + 1) q := by
    simp only [magnitudePattern]
    omega
  rw [hsucc, magValue_magnitudePattern hq hn.le hnorm, magValue_magnitudePattern hq hn (hnorm.imp_right (by omega))]
  have : (0 : ℚ) < 2 ^ q := by positivity
  push_cast
  linarith

theorem magValue_zero (f : FpFormat) : magValue f 0 = 0 := by simp [magValue]

/-- The values of the magnitudes as real numbers. -/
noncomputable def realMag (f : FpFormat) (g : Nat) : ℝ := magValue f g

theorem realMag_strictMono (f : FpFormat) : StrictMono (realMag f) :=
  strictMono_nat_of_lt_succ fun g => Rat.cast_lt.mpr (magValue_lt_succ f g)

theorem realMag_zero (f : FpFormat) : realMag f 0 = 0 := by simp [realMag, magValue_zero]

theorem realMag_nonneg (f : FpFormat) (g : Nat) : 0 ≤ realMag f g :=
  realMag_zero f ▸ (realMag_strictMono f).monotone (Nat.zero_le g)

theorem realMag_magnitudePattern {f : FpFormat} {n : Nat} {q : Int} (hq : minQuantum f ≤ q)
    (hn : n ≤ 2 ^ (fracBits f + 1)) (hnorm : q = minQuantum f ∨ 2 ^ fracBits f ≤ n) :
    realMag f (magnitudePattern f n q) = n * 2 ^ q := by
  rw [realMag, magValue_magnitudePattern hq hn hnorm]
  push_cast
  rfl

theorem abs_unitSign (neg : Bool) : |(unitSign neg : ℝ)| = 1 := by cases neg <;> simp

theorem abs_unitSign_mul (neg : Bool) (y : ℝ) : |(unitSign neg : ℝ) * y| = |y| := by
  rw [abs_mul, abs_unitSign, one_mul]

theorem unitSign_mul_self (neg : Bool) : (unitSign neg : ℝ) * unitSign neg = 1 := by cases neg <;> simp

theorem unitSign_mul_neg_iff (neg : Bool) {y : ℝ} (hy : 0 < y) : (unitSign neg : ℝ) * y < 0 ↔ neg = true := by
  cases neg
  · simp [hy.le]
  · simp [hy]

/-- The magnitude of a finite value is one of `realMag`. -/
theorem exists_realMag_of_valueOf {f : FpFormat} {z : Nat} {w : ℚ} (h : valueOf f z = some w) :
    ∃ k, |(w : ℝ)| = realMag f k := by
  obtain ⟨-, rfl⟩ := valueOf_eq_some_iff.mp h
  refine ⟨magnitudeOf f z, ?_⟩
  rw [Rat.cast_mul, abs_unitSign_mul]
  exact abs_of_nonneg (realMag_nonneg f _)

/-! ### The greatest finite number and the smallest normal one -/

theorem realMag_infPattern (f : FpFormat) : realMag f (infPattern f) = topOf f := by
  have hpat : infPattern f = magnitudePattern f (2 ^ (fracBits f + 1)) ((bias f : Int) - fracBits f) := by
    cases f <;> decide
  have hexp : (bias f : Int) + 1 = (fracBits f + 1 : Nat) + ((bias f : Int) - fracBits f) := by omega
  rw [hpat, realMag_magnitudePattern (by cases f <;> decide) le_rfl (.inr (Nat.pow_le_pow_right (by decide) (by omega))),
    topOf, hexp, zpow_add₀ (by norm_num), zpow_natCast]
  push_cast
  rfl

theorem realMag_infPattern_pred (f : FpFormat) : realMag f (infPattern f - 1) = topOf f - topUnit f := by
  have hpat : infPattern f - 1 = magnitudePattern f (2 ^ (fracBits f + 1) - 1) ((bias f : Int) - fracBits f) := by
    cases f <;> decide
  have hexp : (bias f : Int) + 1 = (fracBits f + 1 : Nat) + ((bias f : Int) - fracBits f) := by omega
  have hone : 1 ≤ 2 ^ (fracBits f + 1) := Nat.one_le_two_pow
  rw [hpat, realMag_magnitudePattern (by cases f <;> decide) (Nat.sub_le ..) (.inr (by cases f <;> decide)),
    topOf, topUnit, hexp, zpow_add₀ (by norm_num), zpow_natCast, Nat.cast_sub hone]
  push_cast
  ring

end Sys2Proof.Machine
end

section
/-! SUPPORT. Rounding: a positive number between two neighbours of an increasing sequence and the one of them that a mode
takes; the integers that a quotient is rounded to. -/

namespace Sys2Proof.Machine

/-! ### Rounding to one of two neighbours -/

/-- What a rounding mode does to a magnitude: to the nearest, toward zero, or away from it. -/
inductive Direction where
  | nearest | inward | outward

/-- The direction of a mode for a number of the given sign (R37). -/
def direction : RoundMode → Bool → Direction
  | .nearestEven, _ => .nearest
  | .towardZero, _ => .inward
  | .towardPositive, neg => if neg then .inward else .outward
  | .towardNegative, neg => if neg then .outward else .inward

/-- `y`, from `lo` up to but not including `hi`, is rounded to `hi`; `odd` says that `lo` is the odd one of the two. -/
def RoundsUp (dir : Direction) (lo hi y : ℝ) (odd : Prop) : Prop :=
  match dir with
  | .nearest => lo + hi < 2 * y ∨ lo + hi = 2 * y ∧ odd
  | .inward => False
  | .outward => lo < y

/-- `y` lies from `V g` up to but not including `V (g + 1)`, and is rounded to `V n`, which is one of them. -/
structure RoundsTo (dir : Direction) (V : Nat → ℝ) (y : ℝ) (g n : Nat) : Prop where
  lower : V g ≤ y
  upper : y < V (g + 1)
  choice : RoundsUp dir (V g) (V (g + 1)) y (g % 2 = 1) ∧ n = g + 1 ∨
    ¬ RoundsUp dir (V g) (V (g + 1)) y (g % 2 = 1) ∧ n = g

/-- `y` is rounded to a number not below `p`, when `p - u` is the one before `p` and `p` is the even one of the two. -/
def Attains (dir : Direction) (p u y : ℝ) : Prop :=
  match dir with
  | .nearest => p - u / 2 ≤ y
  | .inward => p ≤ y
  | .outward => p - u < y

/-- `v` is `y` rounded as far as a candidate `w` can tell; `even` says that `v` is preferred on a tie. -/
def Closest (dir : Direction) (y v w : ℝ) (even : Prop) : Prop :=
  match dir with
  | .nearest => |v - y| ≤ |w - y| ∧ (|v - y| = |w - y| → w = v ∨ even)
  | .inward => v ≤ y ∧ (w ≤ y → w ≤ v)
  | .outward => y ≤ v ∧ (y ≤ w → v ≤ w)

/-- A number that is one of the sequence is rounded to itself. -/
theorem RoundsTo.refl {dir : Direction} {V : Nat → ℝ} {g : Nat} (hV : V g < V (g + 1)) : RoundsTo dir V (V g) g g where
  lower := le_rfl
  upper := hV
  choice := by
    refine .inr ⟨?_, rfl⟩
    cases dir with
    | nearest => rintro (h | ⟨h, -⟩) <;> linarith
    | inward => exact id
    | outward => exact lt_irrefl _

/-- The same rounding in another unit, `k` even places further in the sequence. -/
theorem RoundsTo.rescale {dir : Direction} {V W : Nat → ℝ} {y c : ℝ} {g n k : Nat} (h : RoundsTo dir V y g n)
    (hc : 0 < c) (hk : k % 2 = 0) (hlo : W (g + k) = V g * c) (hhi : W (g + 1 + k) = V (g + 1) * c) :
    RoundsTo dir W (y * c) (g + k) (n + k) := by
  obtain ⟨hl, hu, hch⟩ := h
  rw [show g + 1 + k = g + k + 1 by omega] at hhi
  have hodd : (g + k) % 2 = 1 ↔ g % 2 = 1 := by omega
  have hup : RoundsUp dir (V g * c) (V (g + 1) * c) (y * c) ((g + k) % 2 = 1) ↔
      RoundsUp dir (V g) (V (g + 1)) y (g % 2 = 1) := by
    cases dir with
    | nearest =>
      simp only [RoundsUp, hodd, ← add_mul, ← mul_assoc, mul_lt_mul_iff_left₀ hc, mul_left_inj' hc.ne']
    | inward => rfl
    | outward => exact mul_lt_mul_iff_left₀ hc
  refine ⟨hlo ▸ mul_le_mul_of_nonneg_right hl hc.le, hhi ▸ mul_lt_mul_of_pos_right hu hc, ?_⟩
  rw [hlo, hhi, hup]
  exact hch.imp (.imp_right (by omega)) (.imp_right (by omega))

section
variable {dir : Direction} {V : Nat → ℝ} {y : ℝ} {g n : Nat}

/-- Rounding is exact just where the lower neighbour is. -/
theorem RoundsTo.eq_iff (h : RoundsTo dir V y g n) : V n = y ↔ V g = y := by
  obtain ⟨hl, hu, ⟨hup, rfl⟩ | ⟨-, rfl⟩⟩ := h
  · refine ⟨fun he => absurd he hu.ne', fun he => ?_⟩
    cases dir <;> simp only [RoundsUp] at hup
    · rcases hup with hup | ⟨hup, -⟩ <;> linarith
    · exact absurd he hup.ne
  · rfl

/-- Of the two neighbours the mode takes the one it does. -/
theorem RoundsTo.closest_neighbours (h : RoundsTo dir V y g n) :
    Closest dir y (V n) (V g) (n % 2 = 0) ∧ Closest dir y (V n) (V (g + 1)) (n % 2 = 0) := by
  obtain ⟨hl, hu, hch⟩ := h
  have hlo : |V g - y| = y - V g := by rw [abs_sub_comm]; exact abs_of_nonneg (by linarith)
  have hhi : |V (g + 1) - y| = V (g + 1) - y := abs_of_pos (by linarith)
  cases dir with
  | nearest =>
    obtain ⟨hup, rfl⟩ | ⟨hup, rfl⟩ := hch
    · have hnear : V g + V (g + 1) ≤ 2 * y := hup.elim le_of_lt fun h => h.1.le
      refine ⟨⟨by rw [hlo, hhi]; linarith, fun he => ?_⟩, le_rfl, fun _ => .inl rfl⟩
      rw [hlo, hhi] at he
      have hodd : g % 2 = 1 := hup.elim (fun h => by linarith) And.right
      exact .inr (by omega)
    · simp only [RoundsUp, not_or, not_lt, not_and] at hup
      obtain ⟨hnear, hodd⟩ := hup
      refine ⟨⟨le_rfl, fun _ => .inl rfl⟩, by rw [hlo, hhi]; linarith, fun he => ?_⟩
      rw [hlo, hhi] at he
      have := hodd (by linarith)
      exact .inr (by omega)
  | inward =>
    obtain ⟨hup, -⟩ | ⟨-, rfl⟩ := hch
    · exact hup.elim
    · exact ⟨⟨hl, fun _ => le_rfl⟩, hl, fun hle => absurd hu hle.not_gt⟩
  | outward =>
    obtain ⟨hup, rfl⟩ | ⟨hup, rfl⟩ := hch
    · exact ⟨⟨hu.le, fun hle => absurd hle (not_le.mpr hup)⟩, hu.le, fun _ => le_rfl⟩
    · have hle : y ≤ V n := not_lt.mp hup
      exact ⟨⟨hle, fun _ => le_rfl⟩, hle, fun _ => hl.trans hu.le⟩

end

section
variable {dir : Direction} {y v w c : ℝ} {even : Prop}

/-- A candidate beyond one that lies below is no better than it. -/
theorem Closest.of_le (h : Closest dir y v c even) (hc : c ≤ y) (hw : w ≤ c) : Closest dir y v w even := by
  rcases hw.eq_or_lt with rfl | hlt
  · exact h
  have hfar : |c - y| < |w - y| := by
    rw [abs_sub_comm, abs_sub_comm w, abs_of_nonneg (by linarith), abs_of_pos (by linarith)]
    linarith
  cases dir with
  | nearest => exact ⟨h.1.trans hfar.le, fun he => absurd he (h.1.trans_lt hfar).ne⟩
  | inward => exact ⟨h.1, fun _ => hw.trans (h.2 hc)⟩
  | outward => exact ⟨h.1, fun hle => absurd hle (by linarith)⟩

/-- A candidate beyond one that lies above is no better than it. -/
theorem Closest.of_ge (h : Closest dir y v c even) (hc : y ≤ c) (hw : c ≤ w) : Closest dir y v w even := by
  rcases hw.eq_or_lt with rfl | hlt
  · exact h
  have hfar : |c - y| < |w - y| := by
    rw [abs_of_nonneg (by linarith), abs_of_pos (by linarith)]
    linarith
  cases dir with
  | nearest => exact ⟨h.1.trans hfar.le, fun he => absurd he (h.1.trans_lt hfar).ne⟩
  | inward => exact ⟨h.1, fun hle => absurd hle (by linarith)⟩
  | outward => exact ⟨h.1, fun _ => (h.2 hc).trans hw⟩

end

section
variable {dir : Direction} {V : Nat → ℝ} {y : ℝ} {g n : Nat}

/-- No number of the sequence, of either sign, is a better result. -/
theorem RoundsTo.closest (h : RoundsTo dir V y g n) (hV : StrictMono V) (h0 : V 0 = 0) {w : ℝ}
    (hw : ∃ k, |w| = V k) : Closest dir y (V n) w (n % 2 = 0) := by
  obtain ⟨hlo, hhi⟩ := h.closest_neighbours
  obtain ⟨k, hk⟩ := hw
  rcases Nat.lt_or_ge g k with hgk | hgk
  · have hstep : V (g + 1) ≤ |w| := hk ▸ hV.monotone hgk
    rcases le_or_gt 0 w with hpos | hneg
    · exact hhi.of_ge h.upper.le (hstep.trans (abs_of_nonneg hpos).le)
    · exact hlo.of_le h.lower (hneg.le.trans (h0 ▸ hV.monotone g.zero_le))
  · exact hlo.of_le h.lower ((le_abs_self w).trans (hk ▸ hV.monotone hgk))

/-- Whether an even place of the sequence is reached. -/
theorem RoundsTo.attains_iff (h : RoundsTo dir V y g n) (hV : StrictMono V) {p : Nat} (hp : p % 2 = 1) :
    p + 1 ≤ n ↔ Attains dir (V (p + 1)) (V (p + 1) - V p) y := by
  obtain ⟨hl, hu, hch⟩ := h
  have hstep := hV p.lt_succ_self
  rcases lt_trichotomy g p with hg | rfl | hg
  case inl =>
    have hgp : V (g + 1) ≤ V p := hV.monotone hg
    refine iff_of_false (by omega) ?_
    cases dir <;> simp only [Attains] <;> linarith
  case inr.inl =>
    obtain ⟨hup, rfl⟩ | ⟨hup, rfl⟩ := hch
    · refine iff_of_true le_rfl ?_
      cases dir <;> simp only [RoundsUp] at hup <;> simp only [Attains]
      · rcases hup with hup | ⟨hup, -⟩ <;> linarith
      · linarith
    · refine iff_of_false (by omega) ?_
      cases dir <;> simp only [RoundsUp] at hup <;> simp only [Attains]
      · push Not at hup
        obtain ⟨hle, hodd⟩ := hup
        have hne : V n + V (n + 1) ≠ 2 * y := fun he => hodd he hp
        have := lt_of_le_of_ne hle hne.symm
        linarith
      · linarith
      · linarith
  case inr.inr =>
    have hgp : V (p + 1) ≤ V g := hV.monotone hg
    refine iff_of_true (by omega) ?_
    cases dir <;> simp only [Attains] <;> linarith

end

theorem attains_mul_iff {dir : Direction} {p u y c : ℝ} (hc : 0 < c) :
    Attains dir (p * c) (u * c) (y * c) ↔ Attains dir p u y := by
  cases dir with
  | nearest =>
    rw [Attains, Attains, show p * c - u * c / 2 = (p - u / 2) * c by ring, mul_le_mul_iff_left₀ hc]
  | inward => exact mul_le_mul_iff_left₀ hc
  | outward => rw [Attains, Attains, ← sub_mul, mul_lt_mul_iff_left₀ hc]

/-! ### The bits of a number (R341) -/

/-- A sticky flag stands for what is cut off below the last bit: some part of a unit, and it is set when that is not 0. -/
structure IsSticky (sticky : Bool) (t : ℝ) : Prop where
  nonneg : 0 ≤ t
  lt_one : t < 1
  set_iff : sticky = true ↔ t ≠ 0

theorem isSticky_false : IsSticky false 0 := ⟨le_rfl, one_pos, by simp⟩

theorem IsSticky.eq_zero {t : ℝ} (h : IsSticky false t) : t = 0 := by simpa using h.set_iff

theorem IsSticky.lt_iff {sticky : Bool} {t : ℝ} (h : IsSticky sticky t) (n r : Nat) :
    (n : ℝ) < r + t ↔ n < r ∨ n = r ∧ sticky = true := by
  obtain ⟨h0, h1, hset⟩ := h
  rcases lt_trichotomy n r with hlt | rfl | hgt
  · have : (n : ℝ) < r := by exact_mod_cast hlt
    exact iff_of_true (by linarith) (.inl hlt)
  · rw [lt_add_iff_pos_right, hset, h0.lt_iff_ne']
    simp
  · have : (r : ℝ) + 1 ≤ n := by exact_mod_cast hgt
    exact iff_of_false (by linarith) (by omega)

theorem IsSticky.eq_iff {sticky : Bool} {t : ℝ} (h : IsSticky sticky t) (n r : Nat) :
    (n : ℝ) = r + t ↔ n = r ∧ sticky = false := by
  have hset : t = 0 ↔ sticky = false := by rw [← Bool.not_eq_true, h.set_iff, not_not]
  constructor
  · intro he
    have hle : (r : ℝ) ≤ n := by linarith [h.nonneg]
    have hlt : (n : ℝ) < (r + 1 : Nat) := by push_cast; linarith [h.lt_one]
    obtain rfl : n = r := le_antisymm (Nat.lt_succ_iff.mp (Nat.cast_lt.mp hlt)) (Nat.cast_le.mp hle)
    exact ⟨rfl, hset.mp (by linarith)⟩
  · rintro ⟨rfl, hf⟩
    rw [hset.mpr hf, add_zero]

theorem lt_two_pow_bitLength (m : Nat) : m < 2 ^ bitLength m := by
  rw [bitLength]
  split
  · next h => simp [h]
  · exact Nat.lt_log2_self

theorem two_pow_le_of_le_bitLength {m n : Nat} (h : n < bitLength m) : 2 ^ n ≤ m := by
  rw [bitLength] at h
  split at h
  · omega
  · next hm => exact (Nat.pow_le_pow_right (by decide) (by omega)).trans (Nat.log2_self_le hm)

theorem lt_bitLength_of_le {m n : Nat} (h : 2 ^ n ≤ m) : n < bitLength m := by
  have hlt : 2 ^ n < 2 ^ bitLength m := h.trans_lt (lt_two_pow_bitLength m)
  exact (Nat.pow_lt_pow_iff_right (by decide)).mp hlt

/-! ### Rounding off low bits -/

section
variable {rm : RoundMode} {neg : Bool} {m d : Nat} {sticky : Bool} {t : ℝ}

/-- A number in units of `2 ^ d`: the quotient, and the remainder with what is cut off. -/
theorem add_div_two_pow (m d : Nat) (t : ℝ) :
    (m + t) / 2 ^ d = (m / 2 ^ d : Nat) + ((m % 2 ^ d : Nat) + t) / 2 ^ d := by
  have hm : (m : ℝ) = 2 ^ d * (m / 2 ^ d : Nat) + (m % 2 ^ d : Nat) := by exact_mod_cast (Nat.div_add_mod m (2 ^ d)).symm
  rw [hm]
  generalize m / 2 ^ d = k
  generalize m % 2 ^ d = r
  field_simp
  ring

/-- The decision of the model compares the remainder with 0 or with half a unit. -/
theorem roundsUp_iff (hs : IsSticky sticky t) (hd : sticky = true → 0 < d) :
    roundsUp rm neg (m / 2 ^ d) (m % 2 ^ d) d sticky = true ↔
      RoundsUp (direction rm neg) (m / 2 ^ d : Nat) (m / 2 ^ d + 1 : Nat) ((m + t) / 2 ^ d) (m / 2 ^ d % 2 = 1) := by
  have hpow : (0 : ℝ) < 2 ^ d := by positivity
  have hr : m % 2 ^ d < 2 ^ d := Nat.mod_lt _ (by positivity)
  rw [add_div_two_pow]
  generalize m / 2 ^ d = k
  generalize m % 2 ^ d = r at hr ⊢
  have haway : (k : ℝ) < k + (r + t) / 2 ^ d ↔ r ≠ 0 ∨ sticky = true := by
    have := hs.lt_iff 0 r
    rw [Nat.cast_zero] at this
    rw [lt_add_iff_pos_right, div_pos_iff_of_pos_right hpow, this]
    by_cases h0 : r = 0 <;> simp [h0, Nat.pos_iff_ne_zero, eq_comm]
  have hnear : roundsUp .nearestEven neg k r d sticky = true ↔
      RoundsUp .nearest k (k + 1 : Nat) (k + (r + t) / 2 ^ d) (k % 2 = 1) := by
    have htwice : 2 * ((k : ℝ) + (r + t) / 2 ^ d) = k + (k + 1 : Nat) + (2 * (r + t) - 2 ^ d) / 2 ^ d := by
      push_cast
      field_simp
      ring
    have hlt : (k : ℝ) + (k + 1 : Nat) < 2 * (k + (r + t) / 2 ^ d) ↔ 2 ^ d < 2 * (r + t) := by
      rw [htwice, lt_add_iff_pos_right, div_pos_iff_of_pos_right hpow, sub_pos]
    have heq : (k : ℝ) + (k + 1 : Nat) = 2 * (k + (r + t) / 2 ^ d) ↔ 2 ^ d = 2 * (r + t) := by
      rw [htwice, left_eq_add, div_eq_zero_iff, or_iff_left hpow.ne', sub_eq_zero, eq_comm]
    rw [RoundsUp, hlt, heq]
    cases d with
    | zero =>
      have hst : sticky = false := by simpa using hd
      have ht : t = 0 := (hst ▸ hs).eq_zero
      have hr0 : r = 0 := by omega
      norm_num [roundsUp, ht, hr0]
    | succ j =>
      have hhalf : (2 : ℝ) ^ (j + 1) = 2 * (2 ^ j : Nat) := by push_cast; ring
      rw [hhalf, mul_lt_mul_iff_right₀ two_pos, mul_right_inj' two_ne_zero, hs.lt_iff, hs.eq_iff]
      simp only [roundsUp, Nat.succ_ne_zero, if_false, Nat.add_sub_cancel, Bool.or_eq_true, Bool.and_eq_true,
        decide_eq_true_eq, beq_iff_eq, eq_comm (a := r)]
      cases sticky <;> simp
  cases rm with
  | nearestEven => exact hnear
  | towardZero => simp [roundsUp, RoundsUp, direction]
  | towardPositive => cases neg <;> simp [roundsUp, RoundsUp, direction, haway]
  | towardNegative => cases neg <;> simp [roundsUp, RoundsUp, direction, haway]

theorem roundedQuotient_roundsTo (hs : IsSticky sticky t) (hd : sticky = true → 0 < d) :
    RoundsTo (direction rm neg) Nat.cast ((m + t) / 2 ^ d) (m / 2 ^ d) (roundedQuotient rm neg m d sticky) where
  lower := by
    have := hs.nonneg
    rw [add_div_two_pow, le_add_iff_nonneg_right]
    positivity
  upper := by
    have hr : ((m % 2 ^ d : Nat) : ℝ) + 1 ≤ 2 ^ d := by exact_mod_cast Nat.mod_lt m (by positivity)
    have := hs.lt_one
    rw [add_div_two_pow, Nat.cast_succ, add_lt_add_iff_left, div_lt_one (by positivity)]
    linarith
  choice := by
    rw [← roundsUp_iff hs hd, roundedQuotient]
    cases roundsUp rm neg (m / 2 ^ d) (m % 2 ^ d) d sticky <;> simp

/-- Nothing is rounded off just where the remainder is 0 and nothing was cut off before. -/
theorem quotient_eq_iff (hs : IsSticky sticky t) :
    ((m / 2 ^ d : Nat) : ℝ) = (m + t) / 2 ^ d ↔ (m % 2 ^ d != 0 || sticky) = false := by
  have h0 := hs.eq_iff 0 (m % 2 ^ d)
  rw [Nat.cast_zero] at h0
  rw [add_div_two_pow, left_eq_add, div_eq_zero_iff, or_iff_left (by positivity), eq_comm, h0]
  cases sticky <;> simp [eq_comm (a := 0)]

end

end Sys2Proof.Machine
end

section
/-! SUPPORT. `roundPack`: the magnitude it packs is the exact one rounded, and with its signals and what it gives on overflow
it is the rounding of IEEE 754-2008; the statement O55. -/

namespace Sys2Proof.Machine

/-! ### Overflow and tininess (IEEE 754-2008 clauses 7.4 and 7.5) -/

theorem topUnit_pos (f : FpFormat) : 0 < topUnit f := zpow_pos two_pos _

theorem topUnit_le_topOf (f : FpFormat) : topUnit f ≤ topOf f :=
  zpow_le_zpow_right₀ one_le_two (by omega)

theorem normalUnit_pos (f : FpFormat) : 0 < normalUnit f := zpow_pos two_pos _

theorem normalUnit_le_smallestNormal (f : FpFormat) : normalUnit f ≤ smallestNormal f :=
  zpow_le_zpow_right₀ one_le_two (by omega)

theorem smallestNormal_le_top (f : FpFormat) : smallestNormal f ≤ topOf f - topUnit f := by
  have h1 : smallestNormal f ≤ 2 ^ (bias f : Int) := zpow_le_zpow_right₀ one_le_two (by cases f <;> decide)
  have h2 : topUnit f ≤ 2 ^ (bias f : Int) := zpow_le_zpow_right₀ one_le_two (by omega)
  have h3 : topOf f = 2 ^ (bias f : Int) * 2 := zpow_add_one₀ two_ne_zero _
  linarith

section
variable {f : FpFormat} {rm : RoundMode} {neg : Bool} {y : ℝ}

theorem overflows_iff (hy : 0 < y) :
    Overflows f rm (unitSign neg * y) ↔ Attains (direction rm neg) (topOf f) (topUnit f) y := by
  have hu := topUnit_pos f
  have hle := topUnit_le_topOf f
  cases rm with
  | nearestEven => rw [Overflows, abs_unitSign_mul, abs_of_pos hy]; rfl
  | towardZero => rw [Overflows, abs_unitSign_mul, abs_of_pos hy]; rfl
  | towardPositive | towardNegative =>
    cases neg <;> simp only [Overflows, unitSign_false, unitSign_true, direction, Attains, Bool.false_eq_true, if_true, if_false] <;>
      push_cast
    · exact ⟨fun h => by rcases h with h | h <;> linarith, fun h => .inl (by linarith)⟩
    · exact ⟨fun h => by rcases h with h | h <;> linarith, fun h => .inr (by linarith)⟩

theorem tiny_iff_not_attains (hy : 0 < y) : TinyAfterRounding f rm (unitSign neg * y) ↔
    ¬ Attains (direction rm neg) (smallestNormal f) (normalUnit f) y := by
  have hu := normalUnit_pos f
  have hle := normalUnit_le_smallestNormal f
  cases rm with
  | nearestEven => rw [TinyAfterRounding, abs_unitSign_mul, abs_of_pos hy]; exact not_le.symm
  | towardZero => rw [TinyAfterRounding, abs_unitSign_mul, abs_of_pos hy]; exact not_le.symm
  | towardPositive | towardNegative =>
    cases neg <;> simp only [TinyAfterRounding, unitSign_false, unitSign_true, direction, Attains, Bool.false_eq_true, if_true,
      if_false, not_lt, not_le] <;> push_cast
    · exact ⟨fun h => by linarith, fun h => ⟨by linarith, by linarith⟩⟩
    · exact ⟨fun h => by linarith, fun h => ⟨by linarith, by linarith⟩⟩

end

/-- What is at least `p` is not rounded below it; what is below the number before `p` is not rounded to `p`. -/
theorem attains_of_le {dir : Direction} {p u y : ℝ} (hu : 0 < u) (h : p ≤ y) : Attains dir p u y := by
  cases dir <;> simp only [Attains] <;> linarith

theorem not_attains_of_le {dir : Direction} {p u y : ℝ} (hu : 0 < u) (h : y ≤ p - u) : ¬ Attains dir p u y := by
  cases dir <;> simp only [Attains] <;> linarith

/-! ### The packed magnitude -/

/-- The end of `roundPack`: a magnitude with its sign, or what overflow gives, and the signals. -/
def packed (f : FpFormat) (rm : RoundMode) (neg : Bool) (mag : Nat) (inexact tiny : Bool) : FpResult :=
  if infPattern f ≤ mag then
    { bits := withSign f neg (overflowMagnitude f rm neg), signals := .overflow ||| .inexact }
  else
    { bits := withSign f neg mag
      signals := if inexact then (if tiny then .underflow ||| .inexact else .inexact) else .none }

section
variable {f : FpFormat} {rm : RoundMode} {neg : Bool} {m : Nat} {e : Int} {sticky : Bool} {t : ℝ}

theorem quantum_cases (f : FpFormat) (m : Nat) (e : Int) :
    minQuantum f ≤ quantum f m e ∧ e + bitLength m ≤ quantum f m e + (fracBits f + 1 : Nat) ∧
      (quantum f m e = minQuantum f ∨ e + bitLength m = quantum f m e + (fracBits f + 1 : Nat)) := by
  unfold quantum
  omega

theorem magnitudePattern_roundsTo {dir : Direction} {y : ℝ} {k n : Nat} {q : Int} (h : RoundsTo dir Nat.cast y k n)
    (hq : minQuantum f ≤ q) (hk : k < 2 ^ (fracBits f + 1)) (hnorm : q = minQuantum f ∨ 2 ^ fracBits f ≤ k) :
    RoundsTo dir (realMag f) (y * 2 ^ q) (magnitudePattern f k q) (magnitudePattern f n q) :=
  h.rescale (by positivity) (by rw [Nat.mul_mod, two_pow_fracBits_even, Nat.mul_zero, Nat.zero_mod])
    (realMag_magnitudePattern hq hk.le hnorm) (realMag_magnitudePattern hq hk (hnorm.imp_right (by omega)))

/-- `roundPack` packs the exact magnitude rounded. -/
theorem roundPack_eq_packed (hm : 0 < m) (hs : IsSticky sticky t)
    (hlong : sticky = true → fracBits f + 3 ≤ bitLength m) :
    ∃ g mag inexact, RoundsTo (direction rm neg) (realMag f) ((m + t) * 2 ^ e) g mag ∧
      (inexact = true ↔ realMag f g ≠ (m + t) * 2 ^ e) ∧
      roundPack f rm neg m e sticky = packed f rm neg mag inexact (tiny f rm neg m e sticky) := by
  obtain ⟨hmin, hle, hcases⟩ := quantum_cases f m e
  rw [roundPack]
  generalize hq : quantum f m e = q at hmin hle hcases ⊢
  have hlow := lt_two_pow_bitLength m
  split
  case isTrue hlt =>
    obtain ⟨d, rfl⟩ := Int.le.dest hlt.le
    have hd : (e + (d : Int) - e).toNat = d := by omega
    have hdlong : sticky = true → 0 < d := fun _ => by omega
    have hy : ((m : ℝ) + t) * 2 ^ e = (m + t) / 2 ^ d * 2 ^ (e + (d : Int)) := by
      rw [zpow_add₀ two_ne_zero, zpow_natCast]
      field_simp
    have hk : m / 2 ^ d < 2 ^ (fracBits f + 1) := by
      rw [Nat.div_lt_iff_lt_mul (by positivity), ← pow_add]
      exact hlow.trans_le (Nat.pow_le_pow_right (by decide) (by omega))
    have hnorm : e + (d : Int) = minQuantum f ∨ 2 ^ fracBits f ≤ m / 2 ^ d := by
      refine hcases.imp_right fun h => ?_
      rw [Nat.le_div_iff_mul_le (by positivity), ← pow_add]
      exact two_pow_le_of_le_bitLength (by omega)
    have hround := magnitudePattern_roundsTo (roundedQuotient_roundsTo (rm := rm) (neg := neg) hs hdlong) hmin hk hnorm
    rw [hd]
    refine ⟨_, _, m % 2 ^ d != 0 || sticky, hy ▸ hround, ?_, rfl⟩
    rw [realMag_magnitudePattern hmin hk.le hnorm, hy, Ne, mul_left_inj' (by positivity), quotient_eq_iff hs,
      Bool.not_eq_false]
  case isFalse hge =>
    obtain ⟨d, rfl⟩ := Int.le.dest (not_lt.mp hge)
    have hd : (q + (d : Int) - q).toNat = d := by omega
    have hst : sticky = false := by
      rw [← Bool.not_eq_true]
      intro h
      have := hlong h
      omega
    subst hst
    have hy : ((m : ℝ) + t) * 2 ^ (q + (d : Int)) = (m * 2 ^ d : Nat) * 2 ^ q := by
      rw [zpow_add₀ two_ne_zero, zpow_natCast, hs.eq_zero]
      push_cast
      ring
    have hk : m * 2 ^ d < 2 ^ (fracBits f + 1) :=
      calc m * 2 ^ d < 2 ^ bitLength m * 2 ^ d := Nat.mul_lt_mul_of_pos_right hlow (by positivity)
        _ = 2 ^ (bitLength m + d) := (pow_add ..).symm
        _ ≤ 2 ^ (fracBits f + 1) := Nat.pow_le_pow_right (by decide) (by omega)
    have hnorm : q = minQuantum f ∨ 2 ^ fracBits f ≤ m * 2 ^ d := by
      refine hcases.imp_right fun h => ?_
      have hpos : 0 < bitLength m := lt_bitLength_of_le hm
      have hbits : 2 ^ (fracBits f - d) ≤ m := two_pow_le_of_le_bitLength (by omega)
      calc 2 ^ fracBits f ≤ 2 ^ (fracBits f - d + d) := Nat.pow_le_pow_right (by decide) (by omega)
        _ = 2 ^ (fracBits f - d) * 2 ^ d := pow_add ..
        _ ≤ m * 2 ^ d := Nat.mul_le_mul_right _ hbits
    have hround : RoundsTo (direction rm neg) Nat.cast ((m * 2 ^ d : Nat) : ℝ) (m * 2 ^ d) (m * 2 ^ d) :=
      .refl (by norm_num)
    rw [hd]
    refine ⟨_, _, false, hy ▸ magnitudePattern_roundsTo hround hmin hk hnorm, ?_, rfl⟩
    rw [realMag_magnitudePattern hmin hk.le hnorm, hy]
    simp

/-! ### What the model takes for tiny -/

theorem add_mul_zpow_pos (hm : 0 < m) (hs : IsSticky sticky t) : 0 < ((m : ℝ) + t) * 2 ^ e := by
  have := hs.nonneg
  positivity

theorem add_mul_zpow_lt (hs : IsSticky sticky t) : ((m : ℝ) + t) * 2 ^ e < 2 ^ (e + bitLength m) := by
  have hlow : ((m + 1 : Nat) : ℝ) ≤ (2 ^ bitLength m : Nat) := Nat.cast_le.mpr (lt_two_pow_bitLength m)
  have ht := hs.lt_one
  rw [zpow_add₀ two_ne_zero, zpow_natCast, mul_comm]
  gcongr
  push_cast at hlow
  linarith

theorem tinyBeforeRounding_iff (hm : 0 < m) (hs : IsSticky sticky t) :
    tinyBeforeRounding f m e = true ↔ ((m : ℝ) + t) * 2 ^ e < smallestNormal f := by
  have hpos : 0 < bitLength m := lt_bitLength_of_le hm
  rw [tinyBeforeRounding, Bool.and_eq_true, decide_eq_true_eq, bne_iff_ne, and_iff_right hm.ne']
  constructor
  · intro h
    exact (add_mul_zpow_lt hs).trans_le (zpow_le_zpow_right₀ one_le_two h)
  · intro h
    by_contra hn
    have hbits : ((2 ^ (bitLength m - 1) : Nat) : ℝ) ≤ m := Nat.cast_le.mpr (two_pow_le_of_le_bitLength (by omega))
    have ht := hs.nonneg
    have hge : smallestNormal f ≤ ((m : ℝ) + t) * 2 ^ e :=
      calc smallestNormal f ≤ (2 : ℝ) ^ (((bitLength m - 1 : Nat) : Int) + e) :=
            zpow_le_zpow_right₀ one_le_two (by omega)
        _ = (2 ^ (bitLength m - 1) : Nat) * 2 ^ e := by
            rw [zpow_add₀ two_ne_zero, zpow_natCast]
            push_cast
            rfl
        _ ≤ (m + t) * 2 ^ e := by gcongr; linarith
    exact absurd h hge.not_gt

/-- The test after rounding, for numbers below the smallest normal one. -/
theorem tinyAfterRounding_iff (hs : IsSticky sticky t) (hlong : sticky = true → fracBits f + 3 ≤ bitLength m)
    (hsmall : e + bitLength m ≤ 1 - (bias f : Int)) : tinyAfterRounding f rm neg m e sticky = true ↔
      ¬ Attains (direction rm neg) (smallestNormal f) (normalUnit f) ((m + t) * 2 ^ e) := by
  have hlt := add_mul_zpow_lt (m := m) (e := e) hs
  have hunit : normalUnit f = 2 ^ (-(bias f : Int) - fracBits f) := rfl
  have hnormal : smallestNormal f = (2 ^ (fracBits f + 1) : Nat) * normalUnit f := by
    have hexp : 1 - (bias f : Int) = (fracBits f + 1 : Nat) + (-(bias f : Int) - fracBits f) := by omega
    rw [smallestNormal, hexp, zpow_add₀ two_ne_zero, zpow_natCast, hunit]
    push_cast
    rfl
  simp only [tinyAfterRounding]
  rw [if_neg (by omega)]
  rcases hsmall.lt_or_eq with hbelow | heq
  case inl =>
    rw [if_pos (by omega)]
    refine iff_of_true rfl (not_attains_of_le (normalUnit_pos f) ?_)
    have h1 : ((m : ℝ) + t) * 2 ^ e ≤ 2 ^ (-(bias f : Int)) :=
      hlt.le.trans (zpow_le_zpow_right₀ one_le_two (by omega))
    have h2 : normalUnit f ≤ 2 ^ (-(bias f : Int)) := zpow_le_zpow_right₀ one_le_two (by omega)
    have h3 : smallestNormal f = 2 ^ (-(bias f : Int)) * 2 := by
      rw [smallestNormal, ← zpow_add_one₀ two_ne_zero, add_comm, sub_eq_add_neg]
    linarith
  case inr =>
    rw [if_neg (by omega), decide_eq_true_eq]
    rcases Nat.lt_or_ge (bitLength m) (fracBits f + 1) with hshort | hfull
    case inl =>
      have hst : sticky = false := by
        rw [← Bool.not_eq_true]
        intro h
        have := hlong h
        omega
      subst hst
      have hkept : roundedQuotient rm neg m 0 false = m := by
        cases rm <;> simp [roundedQuotient, roundsUp, Nat.mod_one]
      rw [show bitLength m - (fracBits f + 1) = 0 by omega, hkept]
      refine iff_of_true ?_ (not_attains_of_le (normalUnit_pos f) ?_)
      · exact (lt_two_pow_bitLength m).trans_le (Nat.pow_le_pow_right (by decide) (by omega))
      · have hm : ((m + 1 : Nat) : ℝ) ≤ (2 ^ bitLength m : Nat) := Nat.cast_le.mpr (lt_two_pow_bitLength m)
        have hu : normalUnit f ≤ 2 ^ e := zpow_le_zpow_right₀ one_le_two (by omega)
        have hsn : smallestNormal f = (2 ^ bitLength m : Nat) * 2 ^ e := by
          rw [smallestNormal, ← heq, zpow_add₀ two_ne_zero, zpow_natCast, mul_comm]
          push_cast
          rfl
        have hmul := mul_le_mul_of_nonneg_right hm (zpow_pos (two_pos (α := ℝ)) e).le
        rw [hs.eq_zero, hsn]
        push_cast at hmul ⊢
        linarith
    case inr =>
      obtain ⟨d, hd⟩ := Nat.le.dest hfull
      have hsub : bitLength m - (fracBits f + 1) = d := by omega
      have hround := roundedQuotient_roundsTo (rm := rm) (neg := neg) (m := m) (d := d) hs (fun h => by
        have := hlong h
        omega)
      have hy : ((m : ℝ) + t) * 2 ^ e = (m + t) / 2 ^ d * normalUnit f := by
        have hexp : -(bias f : Int) - fracBits f = e + (d : Int) := by omega
        rw [hunit, hexp, zpow_add₀ two_ne_zero, zpow_natCast]
        field_simp
      have hone : 1 ≤ 2 ^ (fracBits f + 1) := Nat.one_le_two_pow
      have hstep : ((2 ^ (fracBits f + 1) : Nat) : ℝ) - (2 ^ (fracBits f + 1) - 1 : Nat) = 1 := by
        rw [Nat.cast_sub hone]
        push_cast
        ring
      have hreach := hround.attains_iff Nat.strictMono_cast (p := 2 ^ (fracBits f + 1) - 1) (by cases f <;> decide)
      rw [Nat.sub_add_cancel hone, hstep] at hreach
      rw [hsub, ← not_le, hreach, hy, hnormal, ← attains_mul_iff (normalUnit_pos f), one_mul]

/-- The model's tininess is that of the exact number. -/
theorem tiny_iff (hm : 0 < m) (hs : IsSticky sticky t) (hlong : sticky = true → fracBits f + 3 ≤ bitLength m) :
    tiny f rm neg m e sticky = true ↔
      TinyAfterRounding f rm (unitSign neg * ((m + t) * 2 ^ e)) ∨
        Config.tininessBeforeRounding = true ∧ ((m : ℝ) + t) * 2 ^ e < smallestNormal f := by
  have hpos := add_mul_zpow_pos (e := e) hm hs
  rw [tiny, Bool.and_eq_true, Bool.or_eq_true, tinyBeforeRounding_iff hm hs, tiny_iff_not_attains hpos]
  by_cases hsmall : ((m : ℝ) + t) * 2 ^ e < smallestNormal f
  · have hbefore := (tinyBeforeRounding_iff hm hs).mpr hsmall
    rw [tinyBeforeRounding, Bool.and_eq_true, decide_eq_true_eq] at hbefore
    rw [tinyAfterRounding_iff hs hlong hbefore.2]
    tauto
  · have := attains_of_le (dir := direction rm neg) (normalUnit_pos f) (not_lt.mp hsmall)
    tauto

end

/-! ### The rounding of IEEE 754-2008 -/

theorem signals_getLsbD (inexact tiny : Bool) :
    let sig : Signals := if inexact then (if tiny then .underflow ||| .inexact else .inexact) else .none
    sig.getLsbD 4 = false ∧ sig.getLsbD 3 = false ∧ sig.getLsbD 2 = false ∧ sig.getLsbD 1 = (inexact && tiny) ∧
      sig.getLsbD 0 = inexact := by
  revert inexact tiny
  decide

theorem overflow_signals_getLsbD :
    let sig : Signals := .overflow ||| .inexact
    sig.getLsbD 4 = false ∧ sig.getLsbD 3 = false ∧ sig.getLsbD 2 = true ∧ sig.getLsbD 1 = false ∧
      sig.getLsbD 0 = true := by decide

theorem overflowMagnitude_le (f : FpFormat) (rm : RoundMode) (neg : Bool) : overflowMagnitude f rm neg ≤ infPattern f := by
  cases rm <;> cases neg <;> simp [overflowMagnitude]

section
variable {neg : Bool} {y v w : ℝ} {even : Prop}

/-- A magnitude nearest to another is the nearest with a sign. -/
theorem Closest.signed_nearest (h : Closest .nearest y v (unitSign neg * w) even) :
    |unitSign neg * v - unitSign neg * y| ≤ |w - unitSign neg * y| ∧
      (|unitSign neg * v - unitSign neg * y| = |w - unitSign neg * y| → w = unitSign neg * v ∨ even) := by
  have hw : w = unitSign neg * (unitSign neg * w) := by rw [← mul_assoc, unitSign_mul_self, one_mul]
  have hdist : |w - unitSign neg * y| = |unitSign neg * w - y| := by
    nth_rewrite 1 [hw]
    rw [← mul_sub, abs_unitSign_mul]
  rw [← mul_sub, abs_unitSign_mul, hdist]
  exact ⟨h.1, fun he => (h.2 he).imp_left fun hv => hw.trans (congrArg _ hv)⟩

/-- Upward is outward for a positive number and inward for a negative one. -/
theorem Closest.signed_up (h : Closest (direction .towardPositive neg) y v (unitSign neg * w) even) :
    unitSign neg * y ≤ unitSign neg * v ∧ (unitSign neg * y ≤ w → (unitSign neg : ℝ) * v ≤ w) := by
  cases neg <;> obtain ⟨hv, hw⟩ := h <;>
    simp only [unitSign_false, unitSign_true, Rat.cast_neg, Rat.cast_one, one_mul, neg_one_mul] at hv hw ⊢
  · exact ⟨hv, hw⟩
  · exact ⟨neg_le_neg hv, fun hy => neg_le.mp (hw (neg_le.mp hy))⟩

/-- Downward is inward for a positive number and outward for a negative one. -/
theorem Closest.signed_down (h : Closest (direction .towardNegative neg) y v (unitSign neg * w) even) :
    unitSign neg * v ≤ unitSign neg * y ∧ (w ≤ unitSign neg * y → w ≤ (unitSign neg : ℝ) * v) := by
  cases neg <;> obtain ⟨hv, hw⟩ := h <;>
    simp only [unitSign_false, unitSign_true, Rat.cast_neg, Rat.cast_one, one_mul, neg_one_mul] at hv hw ⊢
  · exact ⟨hv, hw⟩
  · exact ⟨neg_le_neg hv, fun hy => le_neg.mp (hw (le_neg.mp hy))⟩

end

section
variable {f : FpFormat} {rm : RoundMode} {neg : Bool} {y : ℝ} {g mag : Nat} {inexact tiny : Bool}

theorem overflows_iff_infPattern_le (hy : 0 < y) (h : RoundsTo (direction rm neg) (realMag f) y g mag) :
    Overflows f rm (unitSign neg * y) ↔ infPattern f ≤ mag := by
  have hone : 1 ≤ infPattern f := by cases f <;> decide
  have hattains := h.attains_iff (realMag_strictMono f) (p := infPattern f - 1) (by cases f <;> decide)
  rw [Nat.sub_add_cancel hone, realMag_infPattern, realMag_infPattern_pred, sub_sub_cancel] at hattains
  rw [overflows_iff hy, hattains]

/-- What is packed on overflow. -/
theorem roundedTo_packed_of_le (hy : 0 < y) (h : RoundsTo (direction rm neg) (realMag f) y g mag)
    (hmag : infPattern f ≤ mag) :
    RoundedTo f rm (unitSign neg * y) (packed f rm neg mag inexact tiny) := by
  have hover := (overflows_iff_infPattern_le hy h).mpr hmag
  have hlt := (overflowMagnitude_le f rm neg).trans_lt (infPattern_lt_signWeight f)
  have hneg := unitSign_mul_neg_iff neg hy
  have hnormal : smallestNormal f ≤ y := by
    by_contra hn
    exact not_attains_of_le (topUnit_pos f) ((not_le.mp hn).le.trans (smallestNormal_le_top f)) ((overflows_iff hy).mp hover)
  have habs : |(unitSign neg : ℝ) * y| = y := by rw [abs_unitSign_mul, abs_of_pos hy]
  have hinf := unpack_withSign_infPattern f neg
  have hmax : ∃ v, valueOf f (withSign f neg (infPattern f - 1)) = some v ∧ |(v : ℝ)| = topOf f - topUnit f := by
    refine ⟨_, valueOf_withSign neg (Nat.sub_one_lt (by cases f <;> decide)), ?_⟩
    rw [Rat.cast_mul, abs_unitSign_mul, ← realMag_infPattern_pred]
    exact abs_of_nonneg (realMag_nonneg f _)
  obtain ⟨hV, hZ, hO, hU, hI⟩ := overflow_signals_getLsbD
  rw [packed, if_pos hmag]
  exact {
    width := withSign_lt f neg hlt
    sign := by rw [signOf_withSign f neg hlt, hneg]
    invalid := hV
    divByZero := hZ
    overflow := iff_of_true hO hover
    underflow := by
      have htiny := tiny_iff_not_attains (f := f) (rm := rm) (neg := neg) hy
      rw [habs, htiny]
      have := attains_of_le (dir := direction rm neg) (normalUnit_pos f) hnormal
      exact iff_of_false (hU ▸ Bool.false_ne_true) fun ⟨_, ht⟩ =>
        ht.elim (· this) fun ht => absurd ht.2 hnormal.not_gt
    finite := fun hn => absurd hover hn
    overflowed := fun _ => by
      have hpos : 0 < (unitSign neg : ℝ) * y ↔ neg = false := by
        cases neg
        · simp [hy]
        · simp [hy.le]
      simp only [hneg, hpos]
      refine ⟨hI, ?_⟩
      cases rm <;> cases neg <;> simp [overflowMagnitude, hinf, hmax] }

/-- What is packed without overflow. -/
theorem roundedTo_packed_of_lt (hy : 0 < y) (h : RoundsTo (direction rm neg) (realMag f) y g mag)
    (hinexact : inexact = true ↔ realMag f g ≠ y)
    (htiny : tiny = true ↔
      TinyAfterRounding f rm (unitSign neg * y) ∨ Config.tininessBeforeRounding = true ∧ y < smallestNormal f)
    (hmag : mag < infPattern f) :
    RoundedTo f rm (unitSign neg * y) (packed f rm neg mag inexact tiny) := by
  have hover : ¬ Overflows f rm (unitSign neg * y) := (overflows_iff_infPattern_le hy h).not.mpr hmag.not_ge
  have hlt := hmag.trans (infPattern_lt_signWeight f)
  have habs : |(unitSign neg : ℝ) * y| = y := by rw [abs_unitSign_mul, abs_of_pos hy]
  obtain ⟨hV, hZ, hO, hU, hI⟩ := signals_getLsbD inexact tiny
  rw [packed, if_neg hmag.not_ge]
  exact {
    width := withSign_lt f neg hlt
    sign := by rw [signOf_withSign f neg hlt, unitSign_mul_neg_iff neg hy]
    invalid := hV
    divByZero := hZ
    overflow := iff_of_false (hO ▸ Bool.false_ne_true) hover
    underflow := by rw [hU, hI, Bool.and_eq_true, htiny, habs]
    finite := fun _ => by
      refine ⟨_, valueOf_withSign neg hmag, ?_, ?_⟩
      · rw [hI, hinexact, Rat.cast_mul, Ne, Ne, mul_right_inj' (by cases neg <;> simp)]
        exact h.eq_iff.not.symm
      · intro z w hw
        have hc (s : Bool) := h.closest (realMag_strictMono f) (realMag_zero f)
          (w := unitSign s * w) (abs_unitSign_mul s w ▸ exists_realMag_of_valueOf hw)
        cases rm with
        | nearestEven =>
          obtain ⟨hle, htie⟩ := (hc neg).signed_nearest
          rw [withSign_even, Rat.cast_mul]
          exact ⟨hle, fun he => (htie he).imp_left fun hv => Rat.cast_injective (hv.trans (Rat.cast_mul ..).symm)⟩
        | towardZero =>
          have hnn := realMag_nonneg f mag
          obtain ⟨k, hk⟩ := exists_realMag_of_valueOf hw
          obtain ⟨hle, hbest⟩ := h.closest (realMag_strictMono f) (realMag_zero f) (w := |(w : ℝ)|)
            ⟨k, (abs_abs _).trans hk⟩
          have hv : |((unitSign neg * magValue f mag : ℚ) : ℝ)| = realMag f mag := by
            rw [Rat.cast_mul, abs_unitSign_mul]
            exact abs_of_nonneg hnn
          refine ⟨?_, ?_, fun hw' => ?_⟩
          · rw [Rat.cast_mul, mul_mul_mul_comm, unitSign_mul_self, one_mul]
            exact mul_nonneg hnn hy.le
          · rwa [hv, habs]
          · rw [habs] at hw'
            have := hbest hw'
            rw [← hv] at this
            exact_mod_cast this
        | towardPositive =>
          obtain ⟨hle, hbest⟩ := (hc neg).signed_up
          rw [Rat.cast_mul]
          exact ⟨hle, fun hx => Rat.cast_le.mp ((Rat.cast_mul ..).le.trans (hbest hx))⟩
        | towardNegative =>
          obtain ⟨hle, hbest⟩ := (hc neg).signed_down
          rw [Rat.cast_mul]
          exact ⟨hle, fun hx => Rat.cast_le.mp ((hbest hx).trans (Rat.cast_mul ..).ge)⟩
    overflowed := fun ho => absurd ho hover }

end

/-- `roundPack` rounds `m` units and what was cut off of one, in every mode. -/
theorem roundPack_roundedTo {f : FpFormat} (rm : RoundMode) (neg : Bool) {m : Nat} (e : Int) {sticky : Bool} {t : ℝ}
    (hm : 0 < m) (hs : IsSticky sticky t) (hlong : sticky = true → fracBits f + 3 ≤ bitLength m) :
    RoundedTo f rm (unitSign neg * ((m + t) * 2 ^ e)) (roundPack f rm neg m e sticky) := by
  have hy := add_mul_zpow_pos (e := e) hm hs
  obtain ⟨g, mag, inexact, hround, hinexact, hpack⟩ := roundPack_eq_packed (rm := rm) (neg := neg) (e := e) hm hs hlong
  rw [hpack]
  rcases Nat.lt_or_ge mag (infPattern f) with hmag | hmag
  · exact roundedTo_packed_of_lt hy hround hinexact (tiny_iff hm hs hlong) hmag
  · exact roundedTo_packed_of_le hy hround hmag

/-- An exact number rounded. -/
theorem roundPack_exact_roundedTo (f : FpFormat) (rm : RoundMode) (neg : Bool) {m : Nat} (e : Int) (hm : 0 < m) :
    RoundedTo f rm (unitSign neg * (m * 2 ^ e)) (roundPack f rm neg m e false) := by
  have h := roundPack_roundedTo (f := f) rm neg e hm isSticky_false nofun
  rwa [add_zero] at h

/-- Settles O55: nothing is cut off an exact number. -/
theorem roundingIsCorrect : Obligations.RoundingIsCorrect := by
  intro f rm neg m e hm
  have hsign : (if neg then (-1 : ℝ) else 1) = unitSign neg := by cases neg <;> simp
  rw [hsign, mul_assoc]
  exact roundPack_exact_roundedTo f rm neg e hm

end Sys2Proof.Machine
end

section
/-! SUPPORT. The operands of the arithmetic operations by what they are, results that are no numbers, and exact results
rounded once; sums, products, fused products and conversions: the statement O56. -/

namespace Sys2Proof.Machine

/-! ### Operands -/

theorem unitSign_mul_eq_zero_iff (neg : Bool) (m : Nat) (e : Int) : unitSign neg * ((m : ℚ) * 2 ^ e) = 0 ↔ m = 0 := by
  have hpow : (2 : ℚ) ^ e ≠ 0 := by positivity
  cases neg <;> simp [hpow]

section
variable {f : FpFormat} {x : Nat}

/-- A pattern is a NaN, an infinity or a number, with its sign. -/
theorem unpack_cases (f : FpFormat) (x : Nat) :
    (∃ sig, unpack f x = .nan sig) ∨ unpack f x = .inf (signOf f x) ∨ ∃ m e, unpack f x = .fin (signOf f x) m e := by
  rcases lt_trichotomy (magnitudeOf f x) (infPattern f) with h | h | h
  · obtain ⟨m, e, hx, -⟩ := unpack_of_lt h
    exact .inr (.inr ⟨m, e, hx⟩)
  · exact .inr (.inl (unpack_of_eq h))
  · exact .inl ⟨_, unpack_of_gt h⟩

theorem signOf_of_inf {p : Bool} (h : unpack f x = .inf p) : signOf f x = p := by
  rcases unpack_cases f x with ⟨_, h'⟩ | h' | ⟨_, _, h'⟩ <;> simp_all

theorem unpack_of_valueOf {a : ℚ} (h : valueOf f x = some a) :
    ∃ m e, unpack f x = .fin (signOf f x) m e ∧ a = unitSign (signOf f x) * (m * 2 ^ e) := by
  obtain ⟨hlt, rfl⟩ := valueOf_eq_some_iff.mp h
  obtain ⟨m, e, hx, hv⟩ := unpack_of_lt hlt
  exact ⟨m, e, hx, by rw [hv]⟩

theorem unpack_of_valueOf_zero (h : valueOf f x = some 0) : ∃ e, unpack f x = .fin (signOf f x) 0 e := by
  obtain ⟨m, e, hx, ha⟩ := unpack_of_valueOf h
  exact ⟨e, (unitSign_mul_eq_zero_iff ..).mp ha.symm ▸ hx⟩

theorem unpack_of_not_isNan (h : isNan f x = false) :
    unpack f x = .inf (signOf f x) ∨ ∃ m e, unpack f x = .fin (signOf f x) m e := by
  rcases unpack_cases f x with ⟨_, h'⟩ | h' | h'
  · simp [isNan, h'] at h
  · exact .inl h'
  · exact .inr h'

theorem unpack_of_notZero (h : NotZero f x) :
    unpack f x = .inf (signOf f x) ∨ ∃ m e, m ≠ 0 ∧ unpack f x = .fin (signOf f x) m e := by
  obtain ⟨hnan, hzero⟩ := h
  rcases unpack_of_not_isNan hnan with h' | ⟨m, e, h'⟩
  · exact .inl h'
  · refine .inr ⟨m, e, ?_, h'⟩
    rintro rfl
    simp [valueOf, h', FpVal.toRat] at hzero

theorem isNan_of_inf {p : Bool} (h : unpack f x = .inf p) : isNan f x = false := by simp [isNan, h]

theorem isNan_of_fin {p : Bool} {m : Nat} {e : Int} (h : unpack f x = .fin p m e) : isNan f x = false := by simp [isNan, h]

end

/-! ### Results that are not rounded -/

theorem zero_eq (f : FpFormat) (neg : Bool) : zero f neg = { bits := zeroBits f neg, signals := 0#5 } := rfl

theorem infinity_eq (f : FpFormat) (neg : Bool) : infinity f neg = { bits := infBits f neg, signals := 0#5 } := rfl

theorem unpack_quietNan (f : FpFormat) (free : Nat) : unpack f (quietNan f free) = .nan false := by
  have hpos : 0 < quietWeight f := by rw [quietWeight]; positivity
  have hfree : free % quietWeight f < quietWeight f := Nat.mod_lt _ hpos
  have hfrac : 2 ^ fracBits f = quietWeight f * 2 := by cases f <;> rfl
  have hroom : infPattern f + quietWeight f * 2 ≤ signWeight f := by cases f <;> decide
  have hmag := magnitudeOf_withSign f (signOf f free) (mag := infPattern f + quietWeight f + free % quietWeight f) (by omega)
  have hmod : (infPattern f + quietWeight f + free % quietWeight f) % 2 ^ fracBits f =
      quietWeight f + free % quietWeight f := by
    rw [infPattern, Nat.add_assoc, Nat.add_comm, Nat.add_mul_mod_self_right, Nat.mod_eq_of_lt (by omega)]
  rw [quietNan, unpack_of_gt (by rw [hmag]; omega), hmag, hmod]
  simp

theorem isQuiet_quietNan (f : FpFormat) (free : Nat) : isQuiet f (quietNan f free) = true := by
  simp [isQuiet, isNan, isSignalling, unpack_quietNan]

theorem invalid_invalidResult (f : FpFormat) : Invalid f (invalidResult f) := ⟨rfl, isQuiet_quietNan f _⟩

/-! ### An exact result rounded once -/

/-- The exact result `a` is rounded, and where it is 0 the result is a zero of the sign `neg` that signals nothing. -/
def RoundedOnce (f : FpFormat) (rm : RoundMode) (r : FpResult) (a : ℚ) (neg : Bool) : Prop :=
  (a ≠ 0 → RoundedTo f rm a r) ∧ (a = 0 → r = { bits := zeroBits f neg, signals := 0#5 })

theorem roundPack_roundedOnce (f : FpFormat) (rm : RoundMode) (neg : Bool) (m : Nat) (e : Int) :
    RoundedOnce f rm (if m = 0 then zero f neg else roundPack f rm neg m e false) (unitSign neg * (m * 2 ^ e)) neg := by
  rcases Nat.eq_zero_or_pos m with rfl | hm
  · simp [RoundedOnce, zero_eq]
  · have hne := (unitSign_mul_eq_zero_iff neg m e).not.mpr hm.ne'
    rw [if_neg hm.ne']
    refine ⟨fun _ => ?_, fun h => absurd h hne⟩
    have h := roundPack_exact_roundedTo f rm neg e hm
    push_cast
    exact h

theorem roundInt_roundedOnce (f : FpFormat) (rm : RoundMode) (n e : Int) (neg : Bool) :
    RoundedOnce f rm (roundInt f rm n e neg) (n * 2 ^ e) neg := by
  have hpow : (2 : ℚ) ^ e ≠ 0 := by positivity
  by_cases hn : n = 0
  · simp [RoundedOnce, roundInt, hn, zero_eq]
  have hval : (n : ℚ) * 2 ^ e = unitSign (decide (n < 0)) * (n.natAbs * 2 ^ e) := by
    have habs : (n : ℚ) = unitSign (decide (n < 0)) * n.natAbs := by
      rw [Nat.cast_natAbs, unitSign]
      rcases lt_or_ge n 0 with h | h
      · simp [h, abs_of_neg h]
      · simp [h.not_gt, abs_of_nonneg h]
    rw [← mul_assoc, ← habs]
  have h := (roundPack_roundedOnce f rm (decide (n < 0)) n.natAbs e).1
  rw [if_neg (Int.natAbs_ne_zero.mpr hn), ← hval] at h
  refine ⟨fun ha => ?_, fun ha => absurd ha (by simp [hn, hpow])⟩
  rw [roundInt, if_neg hn]
  exact h ha

theorem signedInt_eq (neg : Bool) (m : Nat) : (signedInt neg m : ℚ) = unitSign neg * m := by
  cases neg <;> simp [signedInt]

/-- A multiple of a power of two is one of a lower power. -/
theorem mul_zpow_of_le (m : ℚ) {e e' : Int} (h : e' ≤ e) : m * 2 ^ (e - e').toNat * 2 ^ e' = m * 2 ^ e := by
  obtain ⟨d, rfl⟩ := Int.le.dest h
  rw [show (e' + (d : Int) - e').toNat = d by omega, zpow_add₀ two_ne_zero, zpow_natCast]
  ring

/-- Two values over the lower of their exponents. -/
theorem signedInt_mul_pow_mul_zpow (neg : Bool) (m : Nat) {e e' : Int} (h : e' ≤ e) :
    ((signedInt neg m * 2 ^ (e - e').toNat : Int) : ℚ) * 2 ^ e' = unitSign neg * (m * 2 ^ e) := by
  push_cast
  rw [mul_zpow_of_le _ h, signedInt_eq, mul_assoc]

theorem addFinite_roundedOnce (f : FpFormat) (rm : RoundMode) (sx : Bool) (mx : Nat) (ex : Int) (sy : Bool) (my : Nat)
    (ey : Int) : RoundedOnce f rm (addFinite f rm sx mx ex sy my ey)
      (unitSign sx * (mx * 2 ^ ex) + unitSign sy * (my * 2 ^ ey))
      (if sx = sy then sx else decide (rm = .towardNegative)) := by
  have h := roundInt_roundedOnce f rm
    (signedInt sx mx * 2 ^ (ex - min ex ey).toNat + signedInt sy my * 2 ^ (ey - min ex ey).toNat) (min ex ey)
    (if sx = sy then sx else decide (rm = .towardNegative))
  rw [Int.cast_add, add_mul, signedInt_mul_pow_mul_zpow sx mx (min_le_left ..),
    signedInt_mul_pow_mul_zpow sy my (min_le_right ..)] at h
  cases sx <;> cases sy <;> exact h

theorem unitSign_not (neg : Bool) : unitSign (!neg) = -unitSign neg := by cases neg <;> simp

theorem unitSign_bne (p q : Bool) : unitSign (p != q) = unitSign p * unitSign q := by
  cases p <;> cases q <;> simp

theorem unitSign_mul_unitSign_mul (p q : Bool) (a b : ℚ) :
    unitSign p * a * (unitSign q * b) = unitSign (p != q) * (a * b) := by
  rw [unitSign_bne]
  ring

/-! ### Fused products -/

section
variable {f : FpFormat} {x y z : Nat} (hx : isNan f x = false) (hy : isNan f y = false) (hz : isNan f z = false)
  (rm : RoundMode)
include hx hy hz

theorem fpFma_of_none (h : exactProduct (unpack f x) (unpack f y) = none) : fpFma f rm x y z = invalidResult f := by
  simp [fpFma, hx, hy, hz, h]

theorem fpFma_of_some {p : FpVal} (h : exactProduct (unpack f x) (unpack f y) = some p) :
    fpFma f rm x y z = addValues f rm .fma [x, y, z] p (unpack f z) := by
  simp [fpFma, hx, hy, hz, h]

end

/-! ### Finite operands -/

/-- Sums, products and conversions of finite operands. -/
theorem sumsAndProducts : SumsAndProducts := by
  intro f g rm x y z a b c n ha hb hc sum product
  obtain ⟨mx, ex, hx, rfl⟩ := unpack_of_valueOf ha
  obtain ⟨my, ey, hy, rfl⟩ := unpack_of_valueOf hb
  obtain ⟨mz, ez, hz, rfl⟩ := unpack_of_valueOf hc
  have hprod : exactProduct (unpack f x) (unpack f y) = some (.fin product (mx * my) (ex + ey)) := by
    rw [hx, hy]
    rfl
  have hprodValue : unitSign (signOf f x) * (mx * 2 ^ ex) * (unitSign (signOf f y) * (my * 2 ^ ey)) =
      unitSign product * ((mx * my : Nat) * 2 ^ (ex + ey)) := by
    rw [unitSign_mul_unitSign_mul, zpow_add₀ two_ne_zero]
    push_cast
    ring
  simp only [List.forall_mem_cons, List.not_mem_nil, false_implies, implies_true, and_true]
  refine ⟨?add, ?sub, ?mul, ?fma, ?convert, ?fromInt⟩
  case add =>
    rw [fpAdd, hx, hy]
    exact addFinite_roundedOnce ..
  case sub =>
    rw [fpSub, hx, hy, sub_eq_add_neg, ← neg_mul, ← unitSign_not]
    exact addFinite_roundedOnce ..
  case mul =>
    rw [fpMul, hx, hy, hprodValue]
    exact roundPack_roundedOnce ..
  case fma =>
    rw [fpFma_of_some (isNan_of_fin hx) (isNan_of_fin hy) (isNan_of_fin hz) rm hprod, hz, hprodValue]
    exact addFinite_roundedOnce ..
  case convert =>
    rw [fpConvert, hx]
    exact roundPack_roundedOnce ..
  case fromInt =>
    have h := roundInt_roundedOnce f rm n 0 false
    rwa [zpow_zero, mul_one] at h

/-! ### Infinite operands -/

/-- An infinite product, alone and as the first addend of a fused one. -/
theorem product_of_productInfinite {f : FpFormat} {x y : Nat} (h : ProductInfinite f x y) (rm : RoundMode) :
    isNan f x = false ∧ isNan f y = false ∧
      exactProduct (unpack f x) (unpack f y) = some (.inf (signOf f x != signOf f y)) ∧
      fpMul f rm x y = infinity f (signOf f x != signOf f y) := by
  rcases h with ⟨⟨p, hx⟩, hy⟩ | ⟨hx, q, hy⟩
  · obtain rfl := signOf_of_inf hx
    refine ⟨isNan_of_inf hx, hy.1, ?_⟩
    rcases unpack_of_notZero hy with hy | ⟨m, e, hm, hy⟩ <;> simp [exactProduct, fpMul, *]
  · obtain rfl := signOf_of_inf hy
    refine ⟨hx.1, isNan_of_inf hy, ?_⟩
    rcases unpack_of_notZero hx with hx | ⟨m, e, hm, hx⟩ <;> simp [exactProduct, fpMul, *]

/-- The product of an infinity and a zero. -/
theorem product_of_infinityTimesZero {f : FpFormat} {x y : Nat} (h : InfinityTimesZero f x y) (rm : RoundMode) :
    isNan f x = false ∧ isNan f y = false ∧ exactProduct (unpack f x) (unpack f y) = none ∧
      fpMul f rm x y = invalidResult f := by
  rcases h with ⟨⟨p, hx⟩, hy⟩ | ⟨hx, q, hy⟩
  · obtain ⟨e, hy⟩ := unpack_of_valueOf_zero hy
    exact ⟨isNan_of_inf hx, isNan_of_fin hy, by simp [exactProduct, hx, hy], by simp [fpMul, hx, hy]⟩
  · obtain ⟨e, hx⟩ := unpack_of_valueOf_zero hx
    exact ⟨isNan_of_fin hx, isNan_of_inf hy, by simp [exactProduct, hx, hy], by simp [fpMul, hx, hy]⟩

theorem infiniteSumsAndProducts : InfiniteSumsAndProducts := by
  intro f g rm x y z p q b product
  refine ⟨fun hx hy => ?infs, fun hx hy => ?infNumber, fun h => ?infProduct, fun h => ?infZero, fun hx hy hz => ?addend,
    fun hx => ?convert⟩
  case infs =>
    by_cases hpq : p = q
    · subst hpq
      simp [fpAdd, fpSub, addValues, FpVal.negate, hx, hy, infinity_eq, invalid_invalidResult]
    · have hnot : p = !q := by cases p <;> cases q <;> simp_all
      simp [fpAdd, fpSub, addValues, FpVal.negate, hx, hy, infinity_eq, invalid_invalidResult, hnot]
  case infNumber =>
    obtain ⟨m, e, hy, -⟩ := unpack_of_valueOf hy
    simp [fpAdd, fpSub, addValues, FpVal.negate, hx, hy, infinity_eq]
  case infProduct =>
    obtain ⟨hnx, hny, hprod, hmul⟩ := product_of_productInfinite h rm
    refine ⟨hmul, fun hz => ?_, fun hz => ?_⟩
    · rcases hz with hz | hz
      · obtain ⟨m, e, hz, -⟩ := unpack_of_valueOf hz
        rw [fpFma_of_some hnx hny (isNan_of_fin hz) rm hprod, hz]
        rfl
      · rw [fpFma_of_some hnx hny (isNan_of_inf hz) rm hprod, hz]
        exact if_pos rfl
    · rw [fpFma_of_some hnx hny (isNan_of_inf hz) rm hprod, hz, addValues, if_neg (by simp [product])]
      exact invalid_invalidResult f
  case infZero =>
    obtain ⟨hnx, hny, hprod, hmul⟩ := product_of_infinityTimesZero h rm
    refine ⟨hmul ▸ invalid_invalidResult f, fun hz => ?_⟩
    rw [fpFma_of_none hnx hny hz rm hprod]
    exact invalid_invalidResult f
  case addend =>
    obtain ⟨a, hx⟩ := Option.ne_none_iff_exists'.mp hx
    obtain ⟨b, hy⟩ := Option.ne_none_iff_exists'.mp hy
    obtain ⟨mx, ex, hx, -⟩ := unpack_of_valueOf hx
    obtain ⟨my, ey, hy, -⟩ := unpack_of_valueOf hy
    have hprod : exactProduct (unpack f x) (unpack f y) = some (.fin product (mx * my) (ex + ey)) := by
      rw [hx, hy]
      rfl
    rw [fpFma_of_some (isNan_of_fin hx) (isNan_of_fin hy) (isNan_of_inf hz) rm hprod, hz]
    rfl
  case convert =>
    rw [fpConvert, hx]
    rfl

/-- Settles O56. -/
theorem sumsAndProductsAreRounded : Obligations.SumsAndProductsAreRounded :=
  ⟨sumsAndProducts, infiniteSumsAndProducts⟩

end Sys2Proof.Machine
end

section
/-! SUPPORT. Quotients and square roots: the integer parts the model computes and what it cuts off; division, reciprocals and
roots by their operands; the statement O57. -/

namespace Sys2Proof.Machine

/-! ### Quotients (R307, R308) -/

/-- What an integer division cuts off. -/
theorem isSticky_remainder (a : Nat) {b : Nat} (hb : 0 < b) : IsSticky (a % b != 0) ((a % b : Nat) / (b : ℝ)) where
  nonneg := by positivity
  lt_one := (div_lt_one (by positivity)).mpr (Nat.cast_lt.mpr (Nat.mod_lt a hb))
  set_iff := by simp [hb.ne']

theorem divFinite_roundedTo (f : FpFormat) (rm : RoundMode) (neg : Bool) {mx my : Nat} (ex ey : Int) (hx : mx ≠ 0)
    (hy : my ≠ 0) :
    RoundedTo f rm ((unitSign neg * (mx * 2 ^ ex / (my * 2 ^ ey)) : ℚ) : ℝ) (divFinite f rm neg mx ex my ey) := by
  have hypos := Nat.pos_of_ne_zero hy
  have hlarge : 2 ^ (fracBits f + 3) ≤ mx * 2 ^ (fracBits f + 3 + bitLength my) / my := by
    rw [Nat.le_div_iff_mul_le hypos, pow_add _ _ (bitLength my)]
    calc 2 ^ (fracBits f + 3) * my ≤ 2 ^ (fracBits f + 3) * 2 ^ bitLength my :=
          Nat.mul_le_mul_left _ (lt_two_pow_bitLength my).le
      _ ≤ mx * (2 ^ (fracBits f + 3) * 2 ^ bitLength my) := Nat.le_mul_of_pos_left _ (Nat.pos_of_ne_zero hx)
  rw [divFinite]
  generalize hk : fracBits f + 3 + bitLength my = k at hlarge ⊢
  have hround := roundPack_roundedTo rm neg (ex - ey - k) ((Nat.two_pow_pos _).trans_le hlarge)
    (isSticky_remainder (mx * 2 ^ k) hypos) (fun _ => (lt_bitLength_of_le hlarge).le)
  have hvalue : ((mx * 2 ^ k / my : Nat) : ℝ) + (mx * 2 ^ k % my : Nat) / (my : ℝ) = mx * 2 ^ k / my := by
    have hsplit : ((mx * 2 ^ k : Nat) : ℝ) = my * (mx * 2 ^ k / my : Nat) + (mx * 2 ^ k % my : Nat) := by
      exact_mod_cast (Nat.div_add_mod (mx * 2 ^ k) my).symm
    push_cast at hsplit
    field_simp
    rw [hsplit, mul_comm]
  have hexact : ((unitSign neg * (mx * 2 ^ ex / (my * 2 ^ ey)) : ℚ) : ℝ) =
      unitSign neg * ((mx : ℝ) * 2 ^ k / my * 2 ^ (ex - ey - (k : Int))) := by
    rw [zpow_sub₀ two_ne_zero, zpow_sub₀ two_ne_zero, zpow_natCast]
    push_cast
    field_simp
  rw [hexact, ← hvalue]
  exact hround

/-! ### Square roots (R329, R330) -/

/-- The digit by digit root is the integer square root. -/
theorem isqrt_spec (fuel n : Nat) (h : n < 4 ^ fuel) :
    isqrt fuel n * isqrt fuel n ≤ n ∧ n < (isqrt fuel n + 1) * (isqrt fuel n + 1) := by
  induction fuel generalizing n with
  | zero => simpa [isqrt] using h
  | succ fuel ih =>
    obtain ⟨hle, hlt⟩ := ih (n / 4) (by rw [pow_succ] at h; omega)
    rw [isqrt, sqrtDigit]
    generalize isqrt fuel (n / 4) = r at hle hlt
    split
    case isTrue hdigit =>
      have hnext : (2 * r + 1 + 1) * (2 * r + 1 + 1) = 4 * ((r + 1) * (r + 1)) := by ring
      exact ⟨hdigit, by omega⟩
    case isFalse hdigit =>
      have hlast : 2 * r * (2 * r) = 4 * (r * r) := by ring
      exact ⟨by omega, not_le.mp hdigit⟩

/-- What an integer square root cuts off. -/
theorem isSticky_sqrt {n r : Nat} (hle : r * r ≤ n) (hlt : n < (r + 1) * (r + 1)) :
    IsSticky (r * r != n) (Real.sqrt n - r) where
  nonneg := by
    rw [sub_nonneg]
    exact Real.le_sqrt_of_sq_le (by rw [sq]; exact_mod_cast hle)
  lt_one := by
    rw [sub_lt_iff_lt_add', Real.sqrt_lt' (by positivity), sq]
    exact_mod_cast hlt
  set_iff := by
    rw [sub_ne_zero, Ne, Real.sqrt_eq_iff_mul_self_eq (by positivity) (by positivity), bne_iff_ne, eq_comm]
    exact_mod_cast Iff.rfl

theorem sqrtFinite_roundedTo (f : FpFormat) (rm : RoundMode) {m : Nat} (e : Int) (hm : m ≠ 0) :
    RoundedTo f rm (Real.sqrt (m * 2 ^ e)) (sqrtFinite f rm m e) := by
  rw [sqrtFinite]
  generalize hn : m * 2 ^ ((e % 2).toNat + 2 * (fracBits f + 3)) = n
  have hfuel : n < 4 ^ bitLength n := (lt_two_pow_bitLength n).trans_le (Nat.pow_le_pow_left (by decide) _)
  obtain ⟨hle, hlt⟩ := isqrt_spec _ n hfuel
  generalize isqrt (bitLength n) n = r at hle hlt
  have hlarge : 2 ^ (fracBits f + 3) ≤ r := by
    have hsq : 2 ^ (fracBits f + 3) * 2 ^ (fracBits f + 3) ≤ n := by
      rw [← hn, ← pow_add, ← two_mul, pow_add _ (e % 2).toNat, ← Nat.mul_assoc]
      exact Nat.le_mul_of_pos_left _ (by positivity)
    exact Nat.lt_succ_iff.mp (Nat.mul_self_lt_mul_self_iff.mp (hsq.trans_lt hlt))
  have hround := roundPack_roundedTo rm false ((e - (e % 2).toNat) / 2 - (fracBits f + 3 : Nat))
    ((Nat.two_pow_pos _).trans_le hlarge) (isSticky_sqrt hle hlt) (fun _ => (lt_bitLength_of_le hlarge).le)
  have hexact : Real.sqrt (m * 2 ^ e) = unitSign false *
      ((r + (Real.sqrt n - r)) * 2 ^ ((e - (e % 2).toNat) / 2 - (fracBits f + 3 : Nat) : Int)) := by
    generalize hh : (e - (e % 2).toNat) / 2 - (fracBits f + 3 : Nat) = h
    have hexp : e = ((e % 2).toNat + 2 * (fracBits f + 3) : Nat) + (h + h) := by omega
    have hsquare : (m : ℝ) * 2 ^ e = n * (2 ^ h * 2 ^ h) := by
      rw [← hn, ← zpow_add₀ two_ne_zero]
      nth_rewrite 1 [hexp]
      rw [zpow_add₀ two_ne_zero, zpow_natCast]
      push_cast
      ring
    rw [hsquare, Real.sqrt_mul (by positivity), Real.sqrt_mul_self (by positivity)]
    simp
  rw [hexact]
  exact hround

/-! ### Division (R307, R308, R331, R332) -/

section
variable {f : FpFormat} {x y : Nat} (rm : RoundMode)

theorem fpDiv_fin_fin {p q : Bool} {mx my : Nat} {ex ey : Int} (hx : unpack f x = .fin p mx ex)
    (hy : unpack f y = .fin q my ey) :
    fpDiv f rm x y =
      if my = 0 then
        if mx = 0 then invalidResult f else { bits := infBits f (p != q), signals := 8#5 }
      else if mx = 0 then zero f (p != q) else divFinite f rm (p != q) mx ex my ey := by
  rw [fpDiv, hx, hy]
  rfl

theorem unitSign_mul_div (p q : Bool) (a b : ℚ) :
    unitSign p * a / (unitSign q * b) = unitSign (p != q) * (a / b) := by
  rw [unitSign_bne, mul_div_mul_comm]
  congr 1
  cases p <;> cases q <;> norm_num

theorem fpDiv_of_finite {a b : ℚ} (ha : valueOf f x = some a) (hb : valueOf f y = some b) :
    (a ≠ 0 → b ≠ 0 → RoundedTo f rm ((a / b : ℚ) : ℝ) (fpDiv f rm x y)) ∧
      (a = 0 → b ≠ 0 → fpDiv f rm x y = { bits := zeroBits f (signOf f x != signOf f y), signals := 0#5 }) ∧
      (a ≠ 0 → b = 0 → fpDiv f rm x y = { bits := infBits f (signOf f x != signOf f y), signals := 8#5 }) ∧
      (a = 0 → b = 0 → Invalid f (fpDiv f rm x y)) := by
  obtain ⟨mx, ex, hx, rfl⟩ := unpack_of_valueOf ha
  obtain ⟨my, ey, hy, rfl⟩ := unpack_of_valueOf hb
  simp only [Ne, unitSign_mul_eq_zero_iff, fpDiv_fin_fin rm hx hy, unitSign_mul_div]
  refine ⟨fun hmx hmy => ?_, fun hmx hmy => ?_, fun hmx hmy => ?_, fun hmx hmy => ?_⟩
  · rw [if_neg hmy, if_neg hmx]
    exact divFinite_roundedTo f rm _ ex ey hmx hmy
  · rw [if_neg hmy, if_pos hmx, zero_eq]
  · rw [if_pos hmy, if_neg hmx]
  · rw [if_pos hmy, if_pos hmx]
    exact invalid_invalidResult f

theorem fpDiv_inf_inf {p q : Bool} (hx : unpack f x = .inf p) (hy : unpack f y = .inf q) : Invalid f (fpDiv f rm x y) := by
  rw [fpDiv, hx, hy]
  exact invalid_invalidResult f

theorem fpDiv_inf_finite {p : Bool} {b : ℚ} (hx : unpack f x = .inf p) (hy : valueOf f y = some b) :
    fpDiv f rm x y = { bits := infBits f (signOf f x != signOf f y), signals := 0#5 } := by
  obtain ⟨m, e, hy, -⟩ := unpack_of_valueOf hy
  obtain rfl := signOf_of_inf hx
  rw [fpDiv, hx, hy]
  rfl

theorem fpDiv_finite_inf {p : Bool} {b : ℚ} (hx : valueOf f x = some b) (hy : unpack f y = .inf p) :
    fpDiv f rm x y = { bits := zeroBits f (signOf f x != signOf f y), signals := 0#5 } := by
  obtain ⟨m, e, hx, -⟩ := unpack_of_valueOf hx
  obtain rfl := signOf_of_inf hy
  rw [fpDiv, hx, hy]
  rfl

end

/-- The pattern that reciprocals divide is that of 1. -/
theorem signOf_onePattern (f : FpFormat) : signOf f (onePattern f) = false := by cases f <;> decide

theorem magValue_onePattern (f : FpFormat) : magValue f (onePattern f) = 1 := by
  have hpat : onePattern f = magnitudePattern f (2 ^ fracBits f) (-fracBits f) := by cases f <;> decide
  rw [hpat, magValue_magnitudePattern (by cases f <;> decide) (Nat.pow_le_pow_right (by decide) (by omega))
    (.inr le_rfl), zpow_neg, zpow_natCast]
  push_cast
  exact mul_inv_cancel₀ (by positivity)

theorem valueOf_onePattern (f : FpFormat) : valueOf f (onePattern f) = some 1 := by
  have h := valueOf_withSign (f := f) false (mag := onePattern f) (by cases f <;> decide)
  rw [magValue_onePattern] at h
  simpa [withSign] using h

theorem fpRecip_of_zero {f : FpFormat} {x : Nat} (rm : RoundMode) (h : valueOf f x = some 0) :
    fpRecip f rm x = { bits := infBits f (signOf f x), signals := 8#5 } := by
  have hdiv := (fpDiv_of_finite rm (valueOf_onePattern f) h).2.2.1 one_ne_zero rfl
  rwa [signOf_onePattern, Bool.false_bne] at hdiv

theorem fpRecip_of_inf {f : FpFormat} {x : Nat} {p : Bool} (rm : RoundMode) (h : unpack f x = .inf p) :
    fpRecip f rm x = { bits := zeroBits f p, signals := 0#5 } := by
  have hdiv := fpDiv_finite_inf rm (valueOf_onePattern f) h
  rwa [signOf_onePattern, Bool.false_bne, signOf_of_inf h] at hdiv

/-! ### NaN operands (R342) -/

theorem isQuiet_iff_unpack {f : FpFormat} {x : Nat} : isQuiet f x = true ↔ unpack f x = .nan false := by
  simp only [isQuiet, isNan, isSignalling]
  cases unpack f x <;> simp

/-- A quiet NaN that signals nothing (R342). -/
def QuietResult (f : FpFormat) (r : FpResult) : Prop := r.signals = 0#5 ∧ isQuiet f r.bits = true

theorem quietResult_nanResult (f : FpFormat) (op : FpOp) (l : List Nat) : QuietResult f (nanResult f op l false) :=
  ⟨rfl, isQuiet_quietNan f _⟩

theorem invalid_nanResult (f : FpFormat) (op : FpOp) (l : List Nat) : Invalid f (nanResult f op l true) :=
  ⟨rfl, isQuiet_quietNan f _⟩

theorem fpRecip_of_isQuiet {f : FpFormat} {x : Nat} (rm : RoundMode) (h : isQuiet f x = true) :
    QuietResult f (fpRecip f rm x) := by
  obtain ⟨m, e, hone, -⟩ := unpack_of_valueOf (valueOf_onePattern f)
  rw [fpRecip, fpDiv, hone, isQuiet_iff_unpack.mp h]
  exact quietResult_nanResult ..

/-! ### Roots and their reciprocals (R329, R330, R333, R334) -/

section
variable {f : FpFormat} {x : Nat} {a : ℚ} (rm : RoundMode)

theorem signOf_of_pos (h : valueOf f x = some a) (ha : 0 < a) : signOf f x = false := by
  obtain ⟨m, e, -, rfl⟩ := unpack_of_valueOf h
  cases hs : signOf f x with
  | false => rfl
  | true =>
    rw [hs, unitSign_true, neg_one_mul, neg_pos] at ha
    exact absurd ha (not_lt.mpr (by positivity))

theorem signOf_of_neg (h : valueOf f x = some a) (ha : a < 0) : signOf f x = true := by
  obtain ⟨m, e, -, rfl⟩ := unpack_of_valueOf h
  cases hs : signOf f x with
  | true => rfl
  | false =>
    rw [hs, unitSign_false, one_mul] at ha
    exact absurd ha (not_lt.mpr (by positivity))

theorem fpSqrt_of_zero (h : valueOf f x = some 0) :
    fpSqrt f rm x = { bits := zeroBits f (signOf f x), signals := 0#5 } := by
  obtain ⟨e, hx⟩ := unpack_of_valueOf_zero h
  rw [fpSqrt, hx]
  rfl

theorem fpSqrt_of_pos (h : valueOf f x = some a) (ha : 0 < a) : RoundedTo f rm (Real.sqrt a) (fpSqrt f rm x) := by
  obtain ⟨m, e, hx, rfl⟩ := unpack_of_valueOf h
  have hm : m ≠ 0 := (unitSign_mul_eq_zero_iff ..).not.mp ha.ne'
  have hs := signOf_of_pos h ha
  rw [hs] at hx
  have hround := sqrtFinite_roundedTo f rm e hm
  simpa [fpSqrt, hx, hm, hs] using hround

theorem fpSqrt_of_neg (h : valueOf f x = some a) (ha : a < 0) : Invalid f (fpSqrt f rm x) := by
  obtain ⟨m, e, hx, rfl⟩ := unpack_of_valueOf h
  have hm : m ≠ 0 := (unitSign_mul_eq_zero_iff ..).not.mp ha.ne
  rw [fpSqrt, hx, signOf_of_neg h ha]
  simpa [hm] using invalid_invalidResult f

theorem fpSqrt_of_inf (h : unpack f x = .inf false) : fpSqrt f rm x = { bits := infBits f false, signals := 0#5 } := by
  rw [fpSqrt, h]
  rfl

theorem fpSqrt_of_neg_inf (h : unpack f x = .inf true) : Invalid f (fpSqrt f rm x) := by
  rw [fpSqrt, h]
  exact invalid_invalidResult f

theorem fpRsqrt_eq (f : FpFormat) (rm : RoundMode) (x : Nat) :
    fpRsqrt f rm x =
      { bits := (fpRecip f rm (fpSqrt f rm x).bits).bits,
        signals := (fpSqrt f rm x).signals ||| (fpRecip f rm (fpSqrt f rm x).bits).signals } := rfl

/-- The reciprocal of an invalid root signals nothing more. -/
theorem invalid_fpRsqrt (h : Invalid f (fpSqrt f rm x)) : Invalid f (fpRsqrt f rm x) := by
  obtain ⟨hsig, hquiet⟩ := h
  obtain ⟨hsig', hquiet'⟩ := fpRecip_of_isQuiet rm hquiet
  rw [fpRsqrt_eq, hsig, hsig']
  exact ⟨rfl, hquiet'⟩

theorem fpRsqrt_of_zero (h : valueOf f x = some 0) :
    fpRsqrt f rm x = { bits := infBits f (signOf f x), signals := 8#5 } := by
  have hzero : zeroBits f (signOf f x) = withSign f (signOf f x) 0 := (Nat.add_zero _).symm
  have hvalue : valueOf f (zeroBits f (signOf f x)) = some 0 := by
    rw [hzero, valueOf_withSign _ (by cases f <;> decide), magValue_zero, mul_zero]
  rw [fpRsqrt_eq, fpSqrt_of_zero rm h]
  simp only [fpRecip_of_zero rm hvalue]
  rw [hzero, signOf_withSign f _ (signWeight_pos f)]
  rfl

theorem fpRsqrt_of_inf (h : unpack f x = .inf false) :
    fpRsqrt f rm x = { bits := zeroBits f false, signals := 0#5 } := by
  have hroot : unpack f (infBits f false) = .inf false := unpack_withSign_infPattern f false
  rw [fpRsqrt_eq, fpSqrt_of_inf rm h]
  simp only [fpRecip_of_inf rm hroot]
  rfl

end

/-- What is at least a positive number of the format is not rounded below it. -/
theorem le_value_of_roundedTo {f : FpFormat} {rm : RoundMode} {y : ℝ} {r : FpResult} (h : RoundedTo f rm y r)
    (hover : ¬ Overflows f rm y) {z : Nat} {w : ℚ} (hz : valueOf f z = some w) (hw : 0 < w) (hwy : (w : ℝ) ≤ y) :
    ∃ v, valueOf f r.bits = some v ∧ w ≤ v := by
  obtain ⟨v, hv, -, hbest⟩ := h.finite hover
  have hw0 : (0 : ℝ) < w := Rat.cast_pos.mpr hw
  refine ⟨v, hv, Rat.cast_le (K := ℝ).mp ?_⟩
  have hb := hbest z w hz
  cases rm with
  | nearestEven =>
    have hdist := hb.1
    rw [abs_sub_comm (w : ℝ), abs_of_nonneg (sub_nonneg.mpr hwy)] at hdist
    linarith [(abs_le.mp hdist).1]
  | towardZero =>
    obtain ⟨hsame, -, hlarge⟩ := hb
    have hv0 : (0 : ℝ) ≤ v := nonneg_of_mul_nonneg_left hsame (hw0.trans_le hwy)
    have hle := hlarge (by rwa [abs_of_pos hw0, abs_of_pos (hw0.trans_le hwy)])
    rw [abs_of_pos hw, abs_of_nonneg (Rat.cast_nonneg.mp hv0)] at hle
    exact Rat.cast_le.mpr hle
  | towardPositive => exact hwy.trans hb.1
  | towardNegative => exact Rat.cast_le.mpr (hb.2 hwy)

/-- The root of a positive number neither overflows nor is rounded to 0. -/
theorem fpSqrt_value_pos {f : FpFormat} {x : Nat} {a : ℚ} (rm : RoundMode) (h : valueOf f x = some a) (ha : 0 < a) :
    ∃ v, valueOf f (fpSqrt f rm x).bits = some v ∧ 0 < v := by
  have hround := fpSqrt_of_pos rm h ha
  have ha0 : (0 : ℝ) < a := Rat.cast_pos.mpr ha
  have hone : (1 : ℝ) ≤ topOf f - topUnit f := by
    have hle := (realMag_strictMono f).monotone (show onePattern f ≤ infPattern f - 1 by cases f <;> decide)
    rwa [realMag_infPattern_pred, realMag, magValue_onePattern, Rat.cast_one] at hle
  have htop : (a : ℝ) ≤ topOf f - topUnit f := by
    obtain ⟨hlt, hval⟩ := valueOf_eq_some_iff.mp h
    have habs : (a : ℝ) = realMag f (magnitudeOf f x) := by
      rw [← abs_of_pos ha0, hval, Rat.cast_mul, abs_unitSign_mul]
      exact abs_of_nonneg (realMag_nonneg f _)
    rw [habs, ← realMag_infPattern_pred]
    exact (realMag_strictMono f).monotone (by omega)
  have hover : ¬ Overflows f rm (Real.sqrt a) := by
    have hpos := Real.sqrt_pos.mpr ha0
    have hiff := overflows_iff (f := f) (rm := rm) (neg := false) hpos
    rw [show ((unitSign false : ℚ) : ℝ) = 1 by simp, one_mul] at hiff
    rw [hiff]
    refine not_attains_of_le (topUnit_pos f) ((Real.sqrt_le_sqrt htop).trans ?_)
    rw [Real.sqrt_le_left (by linarith)]
    nlinarith
  rcases le_total a 1 with hle | hge
  · have hroot : (a : ℝ) ≤ Real.sqrt a := by
      have : (a : ℝ) ≤ 1 := by exact_mod_cast hle
      exact Real.le_sqrt_of_sq_le (by nlinarith)
    obtain ⟨v, hv, hav⟩ := le_value_of_roundedTo hround hover h ha hroot
    exact ⟨v, hv, ha.trans_le hav⟩
  · have hroot : ((1 : ℚ) : ℝ) ≤ Real.sqrt a := by
      rw [Rat.cast_one, Real.one_le_sqrt]
      exact_mod_cast hge
    obtain ⟨v, hv, hav⟩ := le_value_of_roundedTo hround hover (valueOf_onePattern f) one_pos hroot
    exact ⟨v, hv, one_pos.trans_le hav⟩

/-- The reciprocal root is the reciprocal of the rounded root rounded, with the signals of both. -/
theorem fpRsqrt_of_pos {f : FpFormat} {x : Nat} {a : ℚ} (rm : RoundMode) (h : valueOf f x = some a) (ha : 0 < a) :
    ∃ v, valueOf f (fpSqrt f rm x).bits = some v ∧ ∃ r, RoundedTo f rm ((1 / v : ℚ) : ℝ) r ∧
      fpRsqrt f rm x = { bits := r.bits, signals := (fpSqrt f rm x).signals ||| r.signals } := by
  obtain ⟨v, hv, hpos⟩ := fpSqrt_value_pos rm h ha
  exact ⟨v, hv, _, (fpDiv_of_finite rm (valueOf_onePattern f) hv).1 one_ne_zero hpos.ne', fpRsqrt_eq f rm x⟩

/-- Settles O57, by the kinds of the operands. -/
theorem quotientsAndRootsAreRounded : Obligations.QuotientsAndRootsAreRounded := by
  intro f rm x y a b p q sign
  refine ⟨fpDiv_of_finite rm, fun ha => ?finite, fpDiv_inf_inf rm, fun hx hy => ?infFinite, fun hx => ?inf⟩
  case finite =>
    refine ⟨fun h0 => (fpDiv_of_finite rm (valueOf_onePattern f) ha).1 one_ne_zero h0, ?_,
      fun hpos => ⟨fpSqrt_of_pos rm ha hpos, fpRsqrt_of_pos rm ha hpos⟩,
      fun hneg => ⟨fpSqrt_of_neg rm ha hneg, invalid_fpRsqrt rm (fpSqrt_of_neg rm ha hneg)⟩⟩
    rintro rfl
    exact ⟨fpRecip_of_zero rm ha, fpRsqrt_of_zero rm ha, fpSqrt_of_zero rm ha⟩
  case infFinite =>
    have hcomm : (signOf f y != signOf f x) = sign := Bool.xor_comm _ _
    exact ⟨fpDiv_inf_finite rm hx hy, hcomm ▸ fpDiv_finite_inf rm hy hx⟩
  case inf =>
    refine ⟨fpRecip_of_inf rm hx, ?_, ?_⟩ <;> rintro rfl
    · exact ⟨fpSqrt_of_inf rm hx, fpRsqrt_of_inf rm hx⟩
    · exact ⟨fpSqrt_of_neg_inf rm hx, invalid_fpRsqrt rm (fpSqrt_of_neg_inf rm hx)⟩

end Sys2Proof.Machine
end

section
/-! SUPPORT. NaN operands of every operation, comparison of finite values and of magnitudes, and what the maximum and minimum
operations pick; the statement O60. -/

namespace Sys2Proof.Machine

/-! ### NaN operands (R342, R344) -/

theorem isSignalling_iff_unpack {f : FpFormat} {x : Nat} : isSignalling f x = true ↔ unpack f x = .nan true := by
  rw [isSignalling]
  cases unpack f x <;> simp

theorem isNan_of_isSignalling {f : FpFormat} {x : Nat} (h : isSignalling f x = true) : isNan f x = true := by
  rw [isNan, isSignalling_iff_unpack.mp h]

theorem isNan_of_isQuiet {f : FpFormat} {x : Nat} (h : isQuiet f x = true) : isNan f x = true := by
  rw [isNan, isQuiet_iff_unpack.mp h]

theorem isSignalling_of_isQuiet {f : FpFormat} {x : Nat} (h : isQuiet f x = true) : isSignalling f x = false := by
  rw [isSignalling, isQuiet_iff_unpack.mp h]

theorem isSignalling_of_not_isNan {f : FpFormat} {x : Nat} (h : isNan f x = false) : isSignalling f x = false := by
  rw [← Bool.not_eq_true] at h ⊢
  exact fun hs => h (isNan_of_isSignalling hs)

/-- A two-operand operation whose result is a NaN result as soon as one operand is a NaN. -/
def PropagatesNan (f : FpFormat) (op : Nat → Nat → FpResult) : Prop :=
  ∃ o, ∀ x y, isNan f x = true ∨ isNan f y = true →
    op x y = nanResult f o [x, y] (isSignalling f x || isSignalling f y)

theorem propagatesNan_fpAdd (f : FpFormat) (rm : RoundMode) : PropagatesNan f (fpAdd f rm) := by
  refine ⟨.add, fun x y h => ?_⟩
  cases hx : unpack f x <;> cases hy : unpack f y <;> simp [isNan, isSignalling, fpAdd, addValues, hx, hy] at h ⊢

theorem propagatesNan_fpSub (f : FpFormat) (rm : RoundMode) : PropagatesNan f (fpSub f rm) := by
  refine ⟨.sub, fun x y h => ?_⟩
  cases hx : unpack f x <;> cases hy : unpack f y <;>
    simp [isNan, isSignalling, fpSub, addValues, FpVal.negate, hx, hy] at h ⊢

theorem propagatesNan_fpMul (f : FpFormat) (rm : RoundMode) : PropagatesNan f (fpMul f rm) := by
  refine ⟨.mul, fun x y h => ?_⟩
  cases hx : unpack f x <;> cases hy : unpack f y <;> simp [isNan, isSignalling, fpMul, hx, hy] at h ⊢

theorem propagatesNan_fpDiv (f : FpFormat) (rm : RoundMode) : PropagatesNan f (fpDiv f rm) := by
  refine ⟨.div, fun x y h => ?_⟩
  cases hx : unpack f x <;> cases hy : unpack f y <;> simp [isNan, isSignalling, fpDiv, hx, hy] at h ⊢

section
variable {f : FpFormat} {op : Nat → Nat → FpResult} {x y : Nat} (h : PropagatesNan f op)
include h

theorem PropagatesNan.invalid (hs : isSignalling f x = true ∨ isSignalling f y = true) : Invalid f (op x y) := by
  obtain ⟨o, ho⟩ := h
  rw [ho x y (hs.imp isNan_of_isSignalling isNan_of_isSignalling), Bool.or_eq_true _ _ |>.mpr hs]
  exact invalid_nanResult ..

theorem PropagatesNan.quiet (hn : isNan f x = true ∨ isNan f y = true) (hx : isSignalling f x = false)
    (hy : isSignalling f y = false) : QuietResult f (op x y) := by
  obtain ⟨o, ho⟩ := h
  rw [ho x y hn, hx, hy]
  exact quietResult_nanResult ..

end

/-- For numbers, the product that is not defined is that of infinity and zero. -/
theorem exactProduct_isNone_iff {f : FpFormat} {x y : Nat} (hx : isNan f x = false) (hy : isNan f y = false) :
    (exactProduct (unpack f x) (unpack f y)).isNone = true ↔ InfinityTimesZero f x y := by
  constructor
  · intro h
    rcases unpack_of_not_isNan hx with hx | ⟨mx, ex, hx⟩ <;> rcases unpack_of_not_isNan hy with hy | ⟨my, ey, hy⟩ <;>
      rw [hx, hy] at h <;> simp [exactProduct] at h
    · exact .inl ⟨⟨_, hx⟩, by simp [valueOf, hy, FpVal.toRat, h]⟩
    · exact .inr ⟨by simp [valueOf, hx, FpVal.toRat, h], _, hy⟩
  · intro h
    rw [(product_of_infinityTimesZero h .nearestEven).2.2.1]
    rfl

section
variable {f : FpFormat} (rm : RoundMode) {x y z : Nat}

theorem fpFma_of_nan_factor (h : isNan f x = true ∨ isNan f y = true) : fpFma f rm x y z =
    nanResult f .fma [x, y, z] (isSignalling f x || isSignalling f y || isSignalling f z) := by
  have hxy : (isNan f x || isNan f y) = true := (Bool.or_eq_true _ _).mpr h
  simp [fpFma, hxy]

theorem fpFma_of_nan_addend (hx : isNan f x = false) (hy : isNan f y = false) (hz : isNan f z = true) : fpFma f rm x y z =
    nanResult f .fma [x, y, z] (isSignalling f z ||
      ((exactProduct (unpack f x) (unpack f y)).isNone && Config.fmaInfZeroQnanInvalid)) := by
  simp only [fpFma, hx, hy, hz, isSignalling_of_not_isNan hx, isSignalling_of_not_isNan hy]
  cases (exactProduct (unpack f x) (unpack f y)).isNone <;> simp

theorem fpFma_invalid (h : isSignalling f x = true ∨ isSignalling f y = true ∨ isSignalling f z = true) :
    Invalid f (fpFma f rm x y z) := by
  by_cases hxy : isNan f x = true ∨ isNan f y = true
  · rw [fpFma_of_nan_factor rm hxy, Bool.or_assoc, show (isSignalling f x || (isSignalling f y || isSignalling f z)) = true
      by simpa using h]
    exact invalid_nanResult ..
  · obtain ⟨hx, hy⟩ : isNan f x = false ∧ isNan f y = false := by simpa using hxy
    rw [isSignalling_of_not_isNan hx, isSignalling_of_not_isNan hy] at h
    have hz : isSignalling f z = true := by simpa using h
    rw [fpFma_of_nan_addend rm hx hy (isNan_of_isSignalling hz), hz, Bool.true_or]
    exact invalid_nanResult ..

theorem fpFma_quiet (hx : isSignalling f x = false) (hy : isSignalling f y = false) (hz : isSignalling f z = false)
    (h : isQuiet f x = true ∨ isQuiet f y = true ∨ isQuiet f z = true ∧ ¬ InfinityTimesZero f x y) :
    QuietResult f (fpFma f rm x y z) := by
  by_cases hxy : isNan f x = true ∨ isNan f y = true
  · rw [fpFma_of_nan_factor rm hxy, hx, hy, hz]
    exact quietResult_nanResult ..
  · obtain ⟨hnx, hny⟩ : isNan f x = false ∧ isNan f y = false := by simpa using hxy
    rw [isQuiet, isQuiet, hnx, hny] at h
    obtain ⟨hqz, hno⟩ : isQuiet f z = true ∧ ¬ InfinityTimesZero f x y := by simpa using h
    rw [← exactProduct_isNone_iff hnx hny, Bool.not_eq_true] at hno
    rw [fpFma_of_nan_addend rm hnx hny (isNan_of_isQuiet hqz), hz, hno]
    exact quietResult_nanResult ..

/-- Infinity times zero with a quiet NaN (log 23). -/
theorem fpFma_infinityTimesZero_quiet (hz : isQuiet f z = true) (h : InfinityTimesZero f x y) :
    (fpFma f rm x y z).signals = (if Config.fmaInfZeroQnanInvalid then 16#5 else 0#5) ∧
      isQuiet f (fpFma f rm x y z).bits = true := by
  obtain ⟨hx, hy, hprod, -⟩ := product_of_infinityTimesZero h rm
  rw [fpFma_of_nan_addend rm hx hy (isNan_of_isQuiet hz), isSignalling_of_isQuiet hz, hprod]
  exact ⟨rfl, isQuiet_quietNan f _⟩

/-! ### One operand -/

theorem fpConvert_invalid (g : FpFormat) (h : isSignalling f x = true) : Invalid g (fpConvert f g rm x) := by
  rw [fpConvert, isSignalling_iff_unpack.mp h]
  exact invalid_nanResult ..

theorem fpConvert_quiet (g : FpFormat) (h : isQuiet f x = true) : QuietResult g (fpConvert f g rm x) := by
  rw [fpConvert, isQuiet_iff_unpack.mp h]
  exact quietResult_nanResult ..

theorem fpSqrt_invalid (h : isSignalling f x = true) : Invalid f (fpSqrt f rm x) := by
  rw [fpSqrt, isSignalling_iff_unpack.mp h]
  exact invalid_nanResult ..

theorem fpSqrt_quiet (h : isQuiet f x = true) : QuietResult f (fpSqrt f rm x) := by
  rw [fpSqrt, isQuiet_iff_unpack.mp h]
  exact quietResult_nanResult ..

theorem fpRecip_invalid (h : isSignalling f x = true) : Invalid f (fpRecip f rm x) :=
  (propagatesNan_fpDiv f rm).invalid (.inr h)

theorem fpRsqrt_quiet (h : isQuiet f x = true) : QuietResult f (fpRsqrt f rm x) := by
  obtain ⟨hsig, hquiet⟩ := fpSqrt_quiet rm h
  obtain ⟨hsig', hquiet'⟩ := fpRecip_of_isQuiet rm hquiet
  rw [fpRsqrt_eq, hsig, hsig']
  exact ⟨rfl, hquiet'⟩

end

/-! ### Comparison of numbers (R360) -/

section
variable {f : FpFormat} {x y : Nat} {a b : ℚ}

theorem relOfInts_eq {A B : Int} {c : ℚ} (hc : 0 < c) :
    relOfInts A B = if (A : ℚ) * c < B * c then .lt else if (A : ℚ) * c = B * c then .eq else .gt := by
  simp only [relOfInts, mul_lt_mul_iff_left₀ hc, mul_left_inj' hc.ne', Int.cast_lt, Int.cast_inj]

theorem fpCompare_of_finite (ha : valueOf f x = some a) (hb : valueOf f y = some b) :
    fpCompare f x y = if a < b then .lt else if a = b then .eq else .gt := by
  obtain ⟨mx, ex, hx, rfl⟩ := unpack_of_valueOf ha
  obtain ⟨my, ey, hy, rfl⟩ := unpack_of_valueOf hb
  rw [fpCompare, hx, hy]
  refine (relOfInts_eq (c := 2 ^ min ex ey) (by positivity)).trans ?_
  rw [signedInt_mul_pow_mul_zpow _ mx (min_le_left ..), signedInt_mul_pow_mul_zpow _ my (min_le_right ..)]

theorem isNan_of_fpCompare (h : fpCompare f x y ≠ .un) : isNan f x = false ∧ isNan f y = false := by
  cases hx : unpack f x <;> cases hy : unpack f y <;> simp [isNan, fpCompare, compareValues, hx, hy] at h ⊢

theorem magnitudeOf_eq_withSign (f : FpFormat) (x : Nat) : magnitudeOf f x = withSign f false (magnitudeOf f x) :=
  (Nat.zero_add _).symm

theorem valueOf_magnitudeOf (ha : valueOf f x = some a) : valueOf f (magnitudeOf f x) = some |a| := by
  obtain ⟨hlt, rfl⟩ := valueOf_eq_some_iff.mp ha
  have hnn : 0 ≤ magValue f (magnitudeOf f x) := by
    rw [magValue]
    split <;> positivity
  have h := valueOf_withSign false hlt
  rw [← magnitudeOf_eq_withSign] at h
  rw [h]
  cases signOf f x <;> simp [abs_of_nonneg hnn]

theorem unpack_magnitudeOf_of_inf {p : Bool} (h : unpack f x = .inf p) : unpack f (magnitudeOf f x) = .inf false := by
  have hmag : magnitudeOf f x = infPattern f := by
    rcases lt_trichotomy (magnitudeOf f x) (infPattern f) with h' | h' | h'
    · obtain ⟨m, e, hx, -⟩ := unpack_of_lt h'
      simp [h] at hx
    · exact h'
    · simp [unpack_of_gt h'] at h
  rw [magnitudeOf_eq_withSign, hmag]
  exact unpack_withSign_infPattern f false

end

/-! ### Maximum and minimum (R345) -/

section
variable {f : FpFormat} {o : FpOp} {first : FpRel} {x y : Nat}

theorem pickByOrder_mem (f : FpFormat) (o : FpOp) (first : FpRel) (x y : Nat) :
    pickByOrder f o first x y = x ∨ pickByOrder f o first x y = y := by
  unfold pickByOrder
  split <;> split_ifs <;> simp

theorem pickByMagnitude_mem (f : FpFormat) (o : FpOp) (first : FpRel) (x y : Nat) :
    pickByMagnitude f o first x y = x ∨ pickByMagnitude f o first x y = y := by
  unfold pickByMagnitude
  split
  · exact pickByOrder_mem f o first x y
  · split_ifs <;> simp

variable {pick : Nat → Nat → Nat}

theorem maxMin_of_numbers (hx : isNan f x = false) (hy : isNan f y = false) :
    maxMin f o pick x y = { bits := pick x y, signals := 0#5 } := by
  simp [maxMin, hx, hy, isSignalling_of_not_isNan hx, isSignalling_of_not_isNan hy]
  rfl

/-- The NaN rules of the maximum and minimum operations. -/
theorem maxMin_spec (f : FpFormat) (o : FpOp) (x y : Nat) (hpick : pick x y = x ∨ pick x y = y) :
    let op := maxMin f o pick
    (isSignalling f x = true ∨ isSignalling f y = true → Invalid f (op x y)) ∧
      (isQuiet f x = true → isQuiet f y = true → (op x y).signals = 0#5 ∧ isQuiet f (op x y).bits = true) ∧
      (isQuiet f x = true → isNan f y = false → op x y = { bits := y, signals := 0#5 }) ∧
      (isNan f x = false → isQuiet f y = true → op x y = { bits := x, signals := 0#5 }) ∧
      (isNan f x = false → isNan f y = false →
        (op x y).signals = 0#5 ∧ ((op x y).bits = x ∨ (op x y).bits = y)) := by
  refine ⟨fun h => ?signalling, fun hx hy => ?quiet, fun hx hy => ?first, fun hx hy => ?second, fun hx hy => ?numbers⟩
  case signalling =>
    rw [maxMin, if_pos (by simpa using h)]
    exact invalid_nanResult ..
  case quiet =>
    simp only [maxMin, isSignalling_of_isQuiet hx, isSignalling_of_isQuiet hy, isNan_of_isQuiet hx, isNan_of_isQuiet hy]
    exact quietResult_nanResult ..
  case first =>
    simp only [maxMin, isSignalling_of_isQuiet hx, isSignalling_of_not_isNan hy, isNan_of_isQuiet hx, hy]
    rfl
  case second =>
    simp only [maxMin, isSignalling_of_not_isNan hx, isSignalling_of_isQuiet hy, isNan_of_isQuiet hy, hx]
    rfl
  case numbers =>
    rw [maxMin_of_numbers hx hy]
    exact ⟨rfl, hpick⟩

/-! ### Which operand is the larger one -/

/-- Where the order decides, the operations pick the larger and the smaller operand. -/
theorem maxMin_of_lt (h : fpCompare f x y = .lt) : (fpMax f x y).bits = y ∧ (fpMin f x y).bits = x := by
  obtain ⟨hx, hy⟩ := isNan_of_fpCompare (h.trans_ne (by decide))
  rw [fpMax, fpMin, maxMin_of_numbers hx hy, maxMin_of_numbers hx hy]
  simp [pickByOrder, h]

theorem maxMin_of_gt (h : fpCompare f x y = .gt) : (fpMax f x y).bits = x ∧ (fpMin f x y).bits = y := by
  obtain ⟨hx, hy⟩ := isNan_of_fpCompare (h.trans_ne (by decide))
  rw [fpMax, fpMin, maxMin_of_numbers hx hy, maxMin_of_numbers hx hy]
  simp [pickByOrder, h]

section
variable (hx : isNan f x = false) (hy : isNan f y = false)
include hx hy

/-- Where the magnitudes differ they decide. -/
theorem maxMinMag_of_lt (h : fpCompare f (magnitudeOf f x) (magnitudeOf f y) = .lt) :
    (fpMaxMag f x y).bits = y ∧ (fpMinMag f x y).bits = x := by
  rw [fpMaxMag, fpMinMag, maxMin_of_numbers hx hy, maxMin_of_numbers hx hy]
  simp [pickByMagnitude, h]

theorem maxMinMag_of_gt (h : fpCompare f (magnitudeOf f x) (magnitudeOf f y) = .gt) :
    (fpMaxMag f x y).bits = x ∧ (fpMinMag f x y).bits = y := by
  rw [fpMaxMag, fpMinMag, maxMin_of_numbers hx hy, maxMin_of_numbers hx hy]
  simp [pickByMagnitude, h]

/-- Where they are equal the order decides. -/
theorem maxMinMag_of_eq_of_lt (h : fpCompare f (magnitudeOf f x) (magnitudeOf f y) = .eq) (ho : fpCompare f x y = .lt) :
    (fpMaxMag f x y).bits = y ∧ (fpMinMag f x y).bits = x := by
  rw [fpMaxMag, fpMinMag, maxMin_of_numbers hx hy, maxMin_of_numbers hx hy]
  simp [pickByMagnitude, h, pickByOrder, ho]

theorem maxMinMag_of_eq_of_gt (h : fpCompare f (magnitudeOf f x) (magnitudeOf f y) = .eq) (ho : fpCompare f x y = .gt) :
    (fpMaxMag f x y).bits = x ∧ (fpMinMag f x y).bits = y := by
  rw [fpMaxMag, fpMinMag, maxMin_of_numbers hx hy, maxMin_of_numbers hx hy]
  simp [pickByMagnitude, h, pickByOrder, ho]

end

theorem isNan_of_valueOf {a : ℚ} (h : valueOf f x = some a) : isNan f x = false := by
  obtain ⟨m, e, hx, -⟩ := unpack_of_valueOf h
  exact isNan_of_fin hx

/-- The operations by magnitude, of two finite numbers. -/
theorem maxMinMag_of_finite {a b : ℚ} (ha : valueOf f x = some a) (hb : valueOf f y = some b) :
    (|a| < |b| → (fpMaxMag f x y).bits = y ∧ (fpMinMag f x y).bits = x) ∧
      (|b| < |a| → (fpMaxMag f x y).bits = x ∧ (fpMinMag f x y).bits = y) ∧
      (|a| = |b| → a < b → (fpMaxMag f x y).bits = y ∧ (fpMinMag f x y).bits = x) ∧
      (|a| = |b| → b < a → (fpMaxMag f x y).bits = x ∧ (fpMinMag f x y).bits = y) := by
  have hx := isNan_of_valueOf ha
  have hy := isNan_of_valueOf hb
  have horder := fpCompare_of_finite ha hb
  have hmag := fpCompare_of_finite (valueOf_magnitudeOf ha) (valueOf_magnitudeOf hb)
  refine ⟨fun h => ?_, fun h => ?_, fun h ho => ?_, fun h ho => ?_⟩
  · rw [if_pos h] at hmag
    exact maxMinMag_of_lt hx hy hmag
  · rw [if_neg h.not_gt, if_neg h.ne'] at hmag
    exact maxMinMag_of_gt hx hy hmag
  · rw [if_neg h.not_lt, if_pos h] at hmag
    rw [if_pos ho] at horder
    exact maxMinMag_of_eq_of_lt hx hy hmag horder
  · rw [if_neg h.not_lt, if_pos h] at hmag
    rw [if_neg ho.not_gt, if_neg ho.ne'] at horder
    exact maxMinMag_of_eq_of_gt hx hy hmag horder

/-- An infinity has the larger magnitude. -/
theorem maxMinMag_inf_finite {p : Bool} {b : ℚ} (hx : unpack f x = .inf p) (hy : valueOf f y = some b) :
    (fpMaxMag f x y).bits = x ∧ (fpMinMag f x y).bits = y ∧ (fpMaxMag f y x).bits = x ∧ (fpMinMag f y x).bits = y := by
  have hmx := unpack_magnitudeOf_of_inf hx
  obtain ⟨m, e, hmy, -⟩ := unpack_of_valueOf (valueOf_magnitudeOf hy)
  have hnx := isNan_of_inf hx
  have hny := isNan_of_valueOf hy
  obtain ⟨hmax, hmin⟩ := maxMinMag_of_gt hnx hny (by simp [fpCompare, compareValues, hmx, hmy])
  obtain ⟨hmax', hmin'⟩ := maxMinMag_of_lt hny hnx (by simp [fpCompare, compareValues, hmx, hmy])
  exact ⟨hmax, hmin, hmax', hmin'⟩

/-- Of the two infinities the order decides. -/
theorem maxMinMag_inf_inf (hx : unpack f x = .inf false) (hy : unpack f y = .inf true) :
    (fpMaxMag f x y).bits = x ∧ (fpMinMag f x y).bits = y ∧ (fpMaxMag f y x).bits = x ∧ (fpMinMag f y x).bits = y := by
  have hmx := unpack_magnitudeOf_of_inf hx
  have hmy := unpack_magnitudeOf_of_inf hy
  have hnx := isNan_of_inf hx
  have hny := isNan_of_inf hy
  obtain ⟨hmax, hmin⟩ := maxMinMag_of_eq_of_gt hnx hny (by simp [fpCompare, compareValues, hmx, hmy])
    (by simp [fpCompare, compareValues, hx, hy])
  obtain ⟨hmax', hmin'⟩ := maxMinMag_of_eq_of_lt hny hnx (by simp [fpCompare, compareValues, hmx, hmy])
    (by simp [fpCompare, compareValues, hx, hy])
  exact ⟨hmax, hmin, hmax', hmin'⟩

end

/-- Settles O60. -/
theorem nanOperandsAndMaxMin : Obligations.NanOperandsAndMaxMin := by
  intro f g rm x y z
  refine ⟨?binary, fpFma_invalid rm, fun hx hy hz => ⟨fpFma_quiet rm hx hy hz, fpFma_infinityTimesZero_quiet rm⟩,
    ?maxMin, maxMin_of_lt, maxMin_of_gt, fun a b => maxMinMag_of_finite, fun p b => maxMinMag_inf_finite,
    maxMinMag_inf_inf, ?unary⟩
  case binary =>
    have rules {op : Nat → Nat → FpResult} (h : PropagatesNan f op) :
        (isSignalling f x = true ∨ isSignalling f y = true → Invalid f (op x y)) ∧
          (isQuiet f x = true → isSignalling f y = false → QuietResult f (op x y)) ∧
          (isSignalling f x = false → isQuiet f y = true → QuietResult f (op x y)) :=
      ⟨h.invalid, fun hx hy => h.quiet (.inl (isNan_of_isQuiet hx)) (isSignalling_of_isQuiet hx) hy,
        fun hx hy => h.quiet (.inr (isNan_of_isQuiet hy)) hx (isSignalling_of_isQuiet hy)⟩
    simp only [List.forall_mem_cons, List.not_mem_nil, false_implies, implies_true, and_true]
    exact ⟨rules (propagatesNan_fpAdd f rm), rules (propagatesNan_fpSub f rm), rules (propagatesNan_fpMul f rm),
      rules (propagatesNan_fpDiv f rm)⟩
  case maxMin =>
    simp only [List.forall_mem_cons, List.not_mem_nil, false_implies, implies_true, and_true]
    exact ⟨maxMin_spec f .max x y (pickByOrder_mem ..), maxMin_spec f .min x y (pickByOrder_mem ..),
      maxMin_spec f .maxMag x y (pickByMagnitude_mem ..), maxMin_spec f .minMag x y (pickByMagnitude_mem ..)⟩
  case unary =>
    simp only [List.forall_mem_cons, List.not_mem_nil, false_implies, implies_true, and_true]
    exact ⟨⟨fpConvert_invalid rm g, fpConvert_quiet rm g⟩, ⟨fpSqrt_invalid rm, fpSqrt_quiet rm⟩,
      ⟨fpRecip_invalid rm, fpRecip_of_isQuiet rm⟩, fun h => invalid_fpRsqrt rm (fpSqrt_invalid rm h), fpRsqrt_quiet rm⟩

end Sys2Proof.Machine
end

section
/-! SUPPORT. Comparison is the order of the numbers, O58; and the integer that a number is rounded to, in range and out of
it, O59. -/

namespace Sys2Proof.Machine

/-! ### The relation of two data (R360, R361) -/

section
variable {f : FpFormat} {x y : Nat} {a b : ℚ} {p q : Bool}

theorem fpCompare_of_infs (hx : unpack f x = .inf p) (hy : unpack f y = .inf q) :
    fpCompare f x y = if p = q then .eq else if p then .lt else .gt := by
  rw [fpCompare, hx, hy]
  rfl

theorem fpCompare_of_inf_finite (hx : unpack f x = .inf p) (hy : valueOf f y = some b) :
    fpCompare f x y = if p then .lt else .gt := by
  obtain ⟨m, e, hy, -⟩ := unpack_of_valueOf hy
  rw [fpCompare, hx, hy]
  rfl

theorem fpCompare_of_finite_inf (hx : valueOf f x = some a) (hy : unpack f y = .inf q) :
    fpCompare f x y = if q then .gt else .lt := by
  obtain ⟨m, e, hx, -⟩ := unpack_of_valueOf hx
  rw [fpCompare, hx, hy]
  rfl

/-- What is not a NaN is an infinity or has a value. -/
theorem exists_inf_or_valueOf (h : isNan f x = false) : (∃ p, unpack f x = .inf p) ∨ ∃ a, valueOf f x = some a := by
  rcases unpack_of_not_isNan h with hx | ⟨m, e, hx⟩
  · exact .inl ⟨_, hx⟩
  · exact .inr ⟨_, congrArg FpVal.toRat hx⟩

/-- Two data that are not NaN are ordered. -/
theorem fpCompare_ne_un (hx : isNan f x = false) (hy : isNan f y = false) : fpCompare f x y ≠ .un := by
  rcases exists_inf_or_valueOf hx with ⟨p, hx⟩ | ⟨a, hx⟩ <;> rcases exists_inf_or_valueOf hy with ⟨q, hy⟩ | ⟨b, hy⟩
  · rw [fpCompare_of_infs hx hy]
    split_ifs <;> decide
  · rw [fpCompare_of_inf_finite hx hy]
    split_ifs <;> decide
  · rw [fpCompare_of_finite_inf hx hy]
    split_ifs <;> decide
  · rw [fpCompare_of_finite hx hy]
    split_ifs <;> decide

theorem fpCompare_eq_un_iff : fpCompare f x y = .un ↔ isNan f x = true ∨ isNan f y = true := by
  refine ⟨fun h => ?_, fun h => ?_⟩
  · by_contra hn
    obtain ⟨hx, hy⟩ : isNan f x = false ∧ isNan f y = false := by simpa using hn
    exact fpCompare_ne_un hx hy h
  · by_contra hn
    obtain ⟨hx, hy⟩ := isNan_of_fpCompare hn
    simp [hx, hy] at h

/-- The relation of two numbers, by their values. -/
theorem fpCompare_iff_of_finite (hx : valueOf f x = some a) (hy : valueOf f y = some b) :
    (fpCompare f x y = .lt ↔ a < b) ∧ (fpCompare f x y = .eq ↔ a = b) ∧ (fpCompare f x y = .gt ↔ b < a) := by
  rw [fpCompare_of_finite hx hy]
  rcases lt_trichotomy a b with h | h | h
  · simp [h, h.ne, h.not_gt]
  · simp [h]
  · simp [h, h.ne', h.not_gt]

end

/-- Settles O58. -/
theorem compareIsTheOrder : Obligations.CompareIsTheOrder := by
  intro f x y
  exact ⟨fpCompare_eq_un_iff, fun a b => fpCompare_iff_of_finite,
    fun a hx hy => fpCompare_of_finite_inf hx hy, fun a hx hy => fpCompare_of_finite_inf hx hy,
    fun b hy hx => fpCompare_of_inf_finite hx hy, fun b hy hx => fpCompare_of_inf_finite hx hy,
    fun p q => fpCompare_of_infs⟩

/-! ### The integer a number is rounded to (R377) -/

/-- `n` is `v` rounded to an integer in the mode. -/
def IsRoundedInt (rm : RoundMode) (n : Int) (v : ℚ) : Prop :=
  match rm with
  | .nearestEven => |(n : ℚ) - v| ≤ 1 / 2 ∧ (|(n : ℚ) - v| = 1 / 2 → n % 2 = 0)
  | .towardZero => n = (if 0 ≤ v then ⌊v⌋ else ⌈v⌉)
  | .towardPositive => n = ⌈v⌉
  | .towardNegative => n = ⌊v⌋

theorem signedInt_cast (neg : Bool) (k : Nat) : ((signedInt neg k : Int) : ℝ) = unitSign neg * k := by
  cases neg <;> simp [signedInt]

/-- A signed magnitude is another one just where the magnitudes are the same. -/
theorem signedInt_eq_iff {neg : Bool} {k : Nat} {y : ℝ} {v : ℚ} (hv : (v : ℝ) = unitSign neg * y) :
    (signedInt neg k : ℚ) = v ↔ (k : ℝ) = y := by
  rw [← Rat.cast_inj (α := ℝ), Rat.cast_intCast, signedInt_cast, hv, mul_right_inj' (by cases neg <;> simp)]

section
variable {neg : Bool} {y : ℝ} {g k : Nat}

/-- No integer of either sign is a better result. -/
theorem RoundsTo.closest_int {dir : Direction} (h : RoundsTo dir Nat.cast y g k) (w : Int) :
    Closest dir y k (unitSign neg * (w : ℝ)) (k % 2 = 0) :=
  h.closest Nat.strictMono_cast Nat.cast_zero ⟨w.natAbs, by rw [abs_unitSign_mul, Nat.cast_natAbs, Int.cast_abs]⟩

theorem RoundsTo.signedInt_eq_ceil (h : RoundsTo (direction .towardPositive neg) Nat.cast y g k) :
    signedInt neg k = ⌈(unitSign neg : ℝ) * y⌉ := by
  have hbest (w : Int) := (h.closest_int (neg := neg) w).signed_up
  simp only [← signedInt_cast, Int.cast_le] at hbest
  exact le_antisymm ((hbest _).2 (Int.le_ceil _)) (Int.ceil_le.mpr (hbest 0).1)

theorem RoundsTo.signedInt_eq_floor (h : RoundsTo (direction .towardNegative neg) Nat.cast y g k) :
    signedInt neg k = ⌊(unitSign neg : ℝ) * y⌋ := by
  have hbest (w : Int) := (h.closest_int (neg := neg) w).signed_down
  simp only [← signedInt_cast, Int.cast_le] at hbest
  exact le_antisymm (Int.le_floor.mpr (hbest 0).1) ((hbest _).2 (Int.floor_le _))

/-- The nearest integer is at most half a unit away, and at half a unit both neighbours are as near. -/
theorem RoundsTo.abs_sub_le_half (h : RoundsTo .nearest Nat.cast y g k) :
    |(k : ℝ) - y| ≤ 1 / 2 ∧ (|(k : ℝ) - y| = 1 / 2 → k % 2 = 0) := by
  obtain ⟨⟨hlo, hlotie⟩, hhi, hhitie⟩ := h.closest_neighbours
  have hg : |(g : ℝ) - y| = y - g := by rw [abs_sub_comm, abs_of_nonneg (sub_nonneg.mpr h.lower)]
  have hg1 : |((g + 1 : Nat) : ℝ) - y| = g + 1 - y := by rw [abs_of_pos (sub_pos.mpr h.upper), Nat.cast_succ]
  rw [hg] at hlo hlotie
  rw [hg1] at hhi hhitie
  refine ⟨by linarith, fun he => ?_⟩
  rcases hlotie (by linarith) with hk | heven
  · rcases hhitie (by linarith) with hk' | heven
    · have := hk.trans hk'.symm
      norm_num at this
    · exact heven
  · exact heven

/-- A magnitude rounded in the direction of the mode for its sign is the number rounded in the mode. -/
theorem RoundsTo.isRoundedInt {rm : RoundMode} {v : ℚ} (hv : (v : ℝ) = unitSign neg * y)
    (h : RoundsTo (direction rm neg) Nat.cast y g k) : IsRoundedInt rm (signedInt neg k) v := by
  have hy : 0 ≤ y := (Nat.cast_nonneg g).trans h.lower
  cases rm with
  | nearestEven =>
    obtain ⟨hle, htie⟩ := h.abs_sub_le_half
    have hdist : ((|(signedInt neg k : ℚ) - v| : ℚ) : ℝ) = |(k : ℝ) - y| := by
      rw [Rat.cast_abs, Rat.cast_sub, Rat.cast_intCast, signedInt_cast, hv, ← mul_sub, abs_unitSign_mul]
    have hhalf : (1 / 2 : ℝ) = (1 / 2 : ℚ) := by norm_num
    rw [← hdist, hhalf, Rat.cast_le] at hle
    rw [← hdist, hhalf, Rat.cast_inj] at htie
    refine ⟨hle, fun he => ?_⟩
    have heven := htie he
    rw [signedInt]
    split <;> omega
  | towardZero =>
    rw [IsRoundedInt]
    cases neg with
    | false =>
      have hfloor := RoundsTo.signedInt_eq_floor (neg := false) h
      have hnonneg : 0 ≤ v := by
        rw [← Rat.cast_nonneg (K := ℝ), hv]
        simpa using hy
      rw [if_pos hnonneg, hfloor, ← hv, Rat.floor_cast]
    | true =>
      have hceil := RoundsTo.signedInt_eq_ceil (neg := true) h
      rw [← hv, Rat.ceil_cast] at hceil
      have hnonpos : v ≤ 0 := by
        rw [← Rat.cast_nonpos (K := ℝ), hv]
        simpa using hy
      rw [hceil]
      split_ifs with h0
      · simp [le_antisymm hnonpos h0]
      · rfl
  | towardPositive =>
    rw [IsRoundedInt, h.signedInt_eq_ceil, ← hv, Rat.ceil_cast]
  | towardNegative =>
    rw [IsRoundedInt, h.signedInt_eq_floor, ← hv, Rat.floor_cast]

end

/-! ### Conversion to an integer -/

/-- `roundToInt` rounds the magnitude, and says whether it changed it. -/
theorem roundToInt_roundsTo (rm : RoundMode) (neg : Bool) (m : Nat) (e : Int) :
    (∃ g, RoundsTo (direction rm neg) Nat.cast ((m : ℝ) * 2 ^ e) g (roundToInt rm neg m e).1) ∧
      ((roundToInt rm neg m e).2 = false ↔ ((roundToInt rm neg m e).1 : ℝ) = m * 2 ^ e) := by
  rcases le_or_gt 0 e with he | he
  · obtain ⟨d, rfl⟩ := Int.eq_ofNat_of_zero_le he
    have hval : (m : ℝ) * 2 ^ (d : Int) = (m * 2 ^ d : Nat) := by
      push_cast
      rfl
    rw [roundToInt, if_pos he, hval]
    exact ⟨⟨_, RoundsTo.refl (Nat.cast_lt.mpr (Nat.lt_succ_self _))⟩, by simp⟩
  · obtain ⟨d, hd⟩ := Int.eq_ofNat_of_zero_le (neg_nonneg.mpr he.le)
    have hval : (m : ℝ) * 2 ^ e = (m + 0) / 2 ^ d := by
      rw [← neg_neg e, hd, zpow_neg, zpow_natCast, add_zero, div_eq_mul_inv]
    have hround := roundedQuotient_roundsTo (rm := rm) (neg := neg) (m := m) (d := d) isSticky_false nofun
    have hexact := quotient_eq_iff (m := m) (d := d) isSticky_false
    rw [Bool.or_false] at hexact
    rw [roundToInt, if_neg he.not_ge, hd, hval]
    exact ⟨⟨_, hround⟩, (hround.eq_iff.trans hexact).symm⟩

section
variable {f : FpFormat} {x : Nat} (rm : RoundMode)

/-- An infinity and a NaN have no integer. -/
theorem fpToInt_of_valueOf_none (h : valueOf f x = none) : fpToInt f rm x = invalidInt f x := by
  rcases unpack_cases f x with ⟨sig, hx⟩ | hx | ⟨m, e, hx⟩
  · rw [fpToInt, hx]
  · rw [fpToInt, hx]
  · rw [valueOf, hx] at h
    exact absurd h nofun

/-- The conversion of a number, by the integer it is rounded to. -/
theorem fpToInt_of_finite {v : ℚ} (h : valueOf f x = some v) : ∃ n : Int, IsRoundedInt rm n v ∧
    fpToInt f rm x = if n < -2 ^ 31 ∨ 2 ^ 31 - 1 < n then invalidInt f x
      else { bits := (BitVec.ofInt 32 n).toNat, signals := if (n : ℚ) = v then 0#5 else 1#5 } := by
  obtain ⟨m, e, hx, rfl⟩ := unpack_of_valueOf h
  obtain ⟨⟨g, hround⟩, hexact⟩ := roundToInt_roundsTo rm (signOf f x) m e
  have hv : ((unitSign (signOf f x) * (m * 2 ^ e) : ℚ) : ℝ) = unitSign (signOf f x) * (m * 2 ^ e) := by push_cast; rfl
  refine ⟨_, hround.isRoundedInt hv, ?_⟩
  rw [← signedInt_eq_iff hv] at hexact
  simp only [fpToInt, hx, ← hexact]
  cases (roundToInt rm (signOf f x) m e).2 <;> rfl

end

/-- Settles O59. -/
theorem convertToIntegerIsCorrect : Obligations.ConvertToIntegerIsCorrect := by
  intro f rm x
  refine ⟨fun hnone => ?_, fun v hv => ?_⟩
  · rw [fpToInt_of_valueOf_none rm hnone]
    exact ⟨rfl, rfl⟩
  · obtain ⟨n, hn, hconv⟩ := fpToInt_of_finite rm hv
    refine ⟨n, hn, fun hlo hhi => ?_, fun hout => ?_⟩
    · rw [hconv, if_neg (not_or.mpr ⟨hlo.not_gt, hhi.not_gt⟩)]
      exact ⟨rfl, rfl⟩
    · rw [hconv, if_pos hout]
      exact ⟨rfl, rfl⟩

end Sys2Proof.Machine
end

section
/-! SUPPORT. The moves and branches of condition flags, each as the one write its instruction ends in; the statement O41. -/

namespace Sys2Proof.Machine

/-! ### Moves and branches of condition flags (R399 to R404) -/

/-- Settles O41: each move is one register or flag write, FCSR0 left as it was; BCEQZ is the branch on the flag with its
outcomes exchanged. -/
theorem flagMovesAndBranches : Obligations.FlagMovesAndBranches := by
  intro fd fj rd rj cd o s hf target
  have hflag (b : Bool) : ∃ t, whenFpEnabled s (.next (s.setFlag cd b).advance) = .next t ∧
      FlagEffect s t cd b s.fcsr := ⟨_, whenFpEnabled_yes hf, setFlag_effect s.fcsr cd b s⟩
  refine ⟨hflag _, hflag _, ?movcf2fr, ?movcf2gr, ?bceqz, ?bcnez⟩
  case movcf2fr => exact ⟨_, whenFpEnabled_yes hf, setFreg_effect s.fcsr fd ⟨0#32, boolWord (s.flag cd)⟩ s⟩
  case movcf2gr => exact ⟨_, whenFpEnabled_yes hf, setReg_setPc_effect rd (boolWord (s.flag cd)) _ s⟩
  case bceqz =>
    rw [← ite_not]
    exact exec_effect_of_branchIf (whenFpEnabled_yes hf) Bool.not_iff_not
  case bcnez => exact exec_effect_of_branchIf (whenFpEnabled_yes hf) Iff.rfl

end Sys2Proof.Machine
end

section
/-! SUPPORT. The CSRs after trap entry and after a return, field by field: what each of `setField` and `entryAddress` leaves in
a field; the statements O13, O14, O15 and O16. -/

namespace Sys2Proof

/-! ### Fields inside a field that was written -/

/-- A field read inside a wider one that was written. -/
theorem field_setField_inside {n : Nat} (w : Word) (lo : Nat) (v : BitVec n) (k m : Nat) (h : k + m ≤ n)
    (hn : lo + n ≤ 32) : field (setField w lo v) (lo + k) m = v.extractLsb' k m := by
  apply BitVec.eq_of_getLsbD_eq
  intro i hi
  rw [field_getLsbD, setField_getLsbD, if_pos (by omega), BitVec.getLsbD_extractLsb', show lo + k + i - lo = k + i by omega]

/-- A bit of a field that was written. -/
theorem bit_setField_inside {n : Nat} (w : Word) (lo : Nat) (v : BitVec n) (k : Nat) (h : k < n) (hn : lo + n ≤ 32) :
    bit (setField w lo v) (lo + k) = v.getLsbD k := by
  rw [bit, setField_getLsbD, if_pos (by omega), Nat.add_sub_cancel_left]

/-- A bit outside the field that was written. -/
theorem bit_setField_outside {n : Nat} (w : Word) (lo : Nat) (v : BitVec n) (k : Nat) (h : k < lo ∨ lo + n ≤ k) :
    bit (setField w lo v) k = bit w k := by
  rw [bit, setField_getLsbD, if_neg (by omega), bit]

/-- A field of a field. -/
theorem extractLsb'_field (w : Word) (lo n k m : Nat) (h : k + m ≤ n) :
    (field w lo n).extractLsb' k m = field w (lo + k) m := by
  apply BitVec.eq_of_getLsbD_eq
  intro i hi
  have hk : k + i < n := by omega
  rw [BitVec.getLsbD_extractLsb', field_getLsbD, field_getLsbD]
  simp [hk, Nat.add_assoc]

/-- A bit of a field. -/
theorem getLsbD_field (w : Word) (lo n k : Nat) (h : k < n) : (field w lo n).getLsbD k = bit w (lo + k) := by
  rw [field_getLsbD, decide_eq_true h, Bool.true_and, bit]

/-! ### The address of a handler (R67, R78) -/

theorem field_entryAddress_high (w : Word) : field (entryAddress w) 6 26 = field w 6 26 := by
  have hmask : field 0xFFFFFFC0#32 6 26 = BitVec.allOnes 26 := rfl
  rw [entryAddress, field_and, hmask, BitVec.and_allOnes]

theorem field_entryAddress_low (w : Word) : field (entryAddress w) 0 6 = 0#6 := by
  have hmask : field 0xFFFFFFC0#32 0 6 = 0#6 := rfl
  rw [entryAddress, field_and, hmask, BitVec.and_zero]

namespace Machine

/-! ### Trap entry (R490, R491) -/

section
variable (c : Csrs) (e : Trap) (pc : Word)

/-- PLV and IE are saved in PRMD. -/
theorem Csrs.enter_prmd_low : field (c.enter e pc).prmd 0 3 = field c.crmd 0 3 := field_setField_same _ _ _ (by decide)

theorem Csrs.enter_prmd_high : field (c.enter e pc).prmd 3 29 = field c.prmd 3 29 :=
  field_setField_other _ _ _ _ _ (by decide)

variable {e}

theorem Csrs.enter_crmd (h : e.isRefill = false) : (c.enter e pc).crmd = setField c.crmd 0 0#3 := by
  simp [Csrs.enter, crmdAtEntry, h]

theorem Csrs.enter_badv {va : Word} (h : e.badAddress = some va) : (c.enter e pc).badv = va := by
  simp [Csrs.enter, h]

theorem Csrs.enter_badv_of_none (h : e.badAddress = none) : (c.enter e pc).badv = c.badv := by
  simp [Csrs.enter, h]

theorem Csrs.enter_tlbehi {va : Word} (h : e.pageFault = some va) :
    (c.enter e pc).tlbehi = setField c.tlbehi 13 (field va 13 19) := by
  simp [Csrs.enter, h]

theorem Csrs.enter_tlbehi_of_none (h : e.pageFault = none) : (c.enter e pc).tlbehi = c.tlbehi := by
  simp [Csrs.enter, h]

theorem Csrs.enter_vppn {va : Word} (h : e.pageFault = some va) : (c.enter e pc).vppn = field va 13 19 := by
  rw [Csrs.vppn, c.enter_tlbehi pc h, field_setField_same _ _ _ (by decide)]

theorem Csrs.entry_of_not_refill (h : e.isRefill = false) : c.entry e = entryAddress c.eentry := by
  simp [Csrs.entry, h]

end

/-- The exceptions that record a faulting address in BADV. -/
theorem badAddress_of_mem {e : Trap} {va : Word}
    (h : e ∈ [.adef va, .adem va, .ale va, .pil va, .pis va, .pif va, .pme va, .ppi va]) : e.badAddress = some va := by
  fin_cases h <;> rfl

theorem badAddress_of_mem_none {e : Trap} (h : e ∈ [.int, .sys, .brk, .ine, .ipe, .fpd, .fpe]) : e.badAddress = none := by
  fin_cases h <;> rfl

/-- The exceptions of a page record its number in TLBEHI. -/
theorem pageFault_of_mem {e : Trap} {va : Word} (h : e ∈ [.pil va, .pis va, .pif va, .pme va, .ppi va]) :
    e.pageFault = some va := by
  fin_cases h <;> rfl

theorem pageFault_of_mem_none {e : Trap} {va : Word}
    (h : e ∈ [.int, .sys, .brk, .ine, .ipe, .fpd, .fpe, .adef va, .adem va, .ale va]) : e.pageFault = none := by
  fin_cases h <;> rfl

/-- Settles O13: each field of the CSRs after entry by its own lemma; the codes are those of the table. -/
theorem trapEntry : Obligations.TrapEntry := by
  refine ⟨fun s e he => ?_, fun va => rfl⟩
  refine ⟨s.csr.enter_prmd_low e s.pc, s.csr.enter_prmd_high e s.pc, ?plvIe, ?crmdRest, rfl, s.csr.enter_ecode e s.pc,
    s.csr.enter_esubcode e s.pc, s.csr.enter_pending e s.pc, fun va hm => s.csr.enter_badv s.pc (badAddress_of_mem hm),
    fun hm => s.csr.enter_badv_of_none s.pc (badAddress_of_mem_none hm),
    fun va hm => s.csr.enter_vppn s.pc (pageFault_of_mem hm),
    fun va hm => s.csr.enter_tlbehi_of_none s.pc (pageFault_of_mem_none hm), ?pcHigh, ?pcLow, rfl⟩
  case plvIe =>
    rw [State.takeTrap_csr, s.csr.enter_crmd s.pc he]
    exact field_setField_same _ _ _ (by decide)
  case crmdRest =>
    rw [State.takeTrap_csr, s.csr.enter_crmd s.pc he]
    exact field_setField_other _ _ _ _ _ (by decide)
  case pcHigh =>
    rw [State.takeTrap_pc, s.csr.entry_of_not_refill he]
    exact field_entryAddress_high _
  case pcLow =>
    rw [State.takeTrap_pc, s.csr.entry_of_not_refill he]
    exact field_entryAddress_low _

/-- Settles O14: CRMD gets PLV 0, IE 0, DA 1 and PG 0 as one field of five bits; the rest is entry as for the others. -/
theorem refillEntry : Obligations.RefillEntry := by
  intro s va
  refine ⟨s.csr.enter_prmd_low _ s.pc, s.csr.enter_prmd_high _ s.pc, field_setField_inside s.csr.crmd 0 8#5 0 2 ?_ ?_,
    bit_setField_inside s.csr.crmd 0 8#5 2 ?_ ?_, bit_setField_inside s.csr.crmd 0 8#5 3 ?_ ?_,
    bit_setField_inside s.csr.crmd 0 8#5 4 ?_ ?_, field_setField_other s.csr.crmd 0 8#5 5 27 ?_, rfl,
    s.csr.enter_ecode _ s.pc, s.csr.enter_esubcode _ s.pc, s.csr.enter_pending _ s.pc, s.csr.enter_badv s.pc rfl,
    s.csr.enter_vppn s.pc rfl, field_setField_other s.csr.tlbehi 13 (field va 13 19) 0 13 ?_,
    field_entryAddress_high s.csr.tlbrentry, field_entryAddress_low s.csr.tlbrentry, rfl⟩
  all_goals decide

/-! ### ERTN (R442, R495) -/

theorem Csrs.crmdAtReturn_of_refill {c : Csrs} (h : c.ecode = 0x3F#6) :
    c.crmdAtReturn = setField (setField c.crmd 0 (field c.prmd 0 3)) 3 2#2 := if_pos h

theorem Csrs.crmdAtReturn_of_not_refill {c : Csrs} (h : c.ecode ≠ 0x3F#6) :
    c.crmdAtReturn = setField c.crmd 0 (field c.prmd 0 3) := if_neg h

/-- The low three bits of CRMD after a return are those of PRMD, whatever was returned from. -/
theorem Csrs.field_crmdAtReturn_low (c : Csrs) : field c.crmdAtReturn 0 3 = field c.prmd 0 3 := by
  by_cases h : c.ecode = 0x3F#6
  · rw [c.crmdAtReturn_of_refill h, field_setField_other _ _ _ _ _ (by decide), field_setField_same _ _ _ (by decide)]
  · rw [c.crmdAtReturn_of_not_refill h, field_setField_same _ _ _ (by decide)]

/-- DATF, DATM and all above stay as they are. -/
theorem Csrs.field_crmdAtReturn_high (c : Csrs) : field c.crmdAtReturn 5 27 = field c.crmd 5 27 := by
  by_cases h : c.ecode = 0x3F#6
  · rw [c.crmdAtReturn_of_refill h, field_setField_other _ _ _ _ _ (by decide),
      field_setField_other _ _ _ _ _ (by decide)]
  · rw [c.crmdAtReturn_of_not_refill h, field_setField_other _ _ _ _ _ (by decide)]

theorem Csrs.plv_crmdAtReturn (c : Csrs) : field c.crmdAtReturn 0 2 = field c.prmd 0 2 :=
  calc field c.crmdAtReturn 0 2
      = (field c.crmdAtReturn 0 3).extractLsb' 0 2 := (extractLsb'_field _ 0 3 0 2 (by decide)).symm
    _ = (field c.prmd 0 3).extractLsb' 0 2 := by rw [c.field_crmdAtReturn_low]
    _ = field c.prmd 0 2 := extractLsb'_field _ 0 3 0 2 (by decide)

theorem Csrs.ie_crmdAtReturn (c : Csrs) : bit c.crmdAtReturn 2 = bit c.prmd 2 :=
  calc bit c.crmdAtReturn 2
      = (field c.crmdAtReturn 0 3).getLsbD 2 := (getLsbD_field _ 0 3 2 (by decide)).symm
    _ = (field c.prmd 0 3).getLsbD 2 := by rw [c.field_crmdAtReturn_low]
    _ = bit c.prmd 2 := getLsbD_field _ 0 3 2 (by decide)

/-- A return from a TLB refill turns mapped translation on. -/
theorem Csrs.mode_crmdAtReturn_of_refill {c : Csrs} (h : c.ecode = 0x3F#6) :
    bit c.crmdAtReturn 3 = false ∧ bit c.crmdAtReturn 4 = true := by
  rw [c.crmdAtReturn_of_refill h]
  exact ⟨bit_setField_inside _ 3 2#2 0 (by decide) (by decide), bit_setField_inside _ 3 2#2 1 (by decide) (by decide)⟩

/-- Any other return keeps the mode of translation. -/
theorem Csrs.mode_crmdAtReturn_of_not_refill {c : Csrs} (h : c.ecode ≠ 0x3F#6) :
    bit c.crmdAtReturn 3 = c.da ∧ bit c.crmdAtReturn 4 = c.pg := by
  rw [c.crmdAtReturn_of_not_refill h]
  exact ⟨bit_setField_outside _ _ _ _ (by decide), bit_setField_outside _ _ _ _ (by decide)⟩

/-- LLbit after a return, which KLO keeps. -/
theorem State.llbit_returnFromTrap (s : State) :
    s.returnFromTrap.llbit = if s.csr.klo then s.llbit else false := by
  rw [State.returnFromTrap_llbit]
  cases s.csr.klo with
  | false => exact Bool.and_false _
  | true => exact Bool.and_true _

/-- Settles O15: at PLV0 the meaning is `State.returnFromTrap`, whose CRMD is read field by field. -/
theorem ertn : Obligations.Ertn := fun s hp =>
  ⟨_, whenPrivileged_yes hp, rfl, s.csr.plv_crmdAtReturn, s.csr.ie_crmdAtReturn, Csrs.mode_crmdAtReturn_of_refill,
    Csrs.mode_crmdAtReturn_of_not_refill, s.csr.field_crmdAtReturn_high, rfl, s.llbit_returnFromTrap, rfl⟩

/-- Settles O16: both meanings are trap entry and nothing before it. -/
theorem syscallAndBreak : Obligations.SyscallAndBreak := fun _ _ => ⟨rfl, rfl, rfl, rfl⟩

end Machine
end Sys2Proof
end

section
/-! SUPPORT. What the check of the privilege level and the check of EUEN.FPE guard, instruction by instruction, and what an
instruction keeps at any level but 0; the statements O11, O17 and O18. -/

namespace Sys2Proof.Machine

/-! ### The checks before an instruction's own effect (R430, R467, R469) -/

/-- The meaning of a privileged instruction is behind the check of the privilege level. -/
theorem exec_of_privileged {i : Instr} (h : i.unit = .privileged) (s : State) : ∃ k, exec i s = whenPrivileged s k := by
  cases i with
  | csrrd | csrwr | csrxchg | cacop | tlbsrch | tlbrd | tlbwr | tlbfill | invtlb | ertn | idle => exact ⟨_, rfl⟩
  | _ => cases h

theorem exec_privileged_in_user_mode {i : Instr} {s : State} (h : i.unit = .privileged) (hp : s.csr.plv ≠ 0#2) :
    exec i s = .next (s.takeTrap .ipe) := by
  obtain ⟨k, hk⟩ := exec_of_privileged h s
  rw [hk, whenPrivileged_no hp]

/-- Settles O17: the check of the privilege level comes first; the list is read off `Instr.unit`, constructor by constructor. -/
theorem privilegedInUserModeTakesIpe : Obligations.PrivilegedInUserModeTakesIpe := by
  refine ⟨fun i s => exec_privileged_in_user_mode, fun i => ⟨fun h => ?listed, ?privileged⟩⟩
  case listed =>
    cases i with
    | csrrd | csrwr | csrxchg | cacop | tlbsrch | tlbrd | tlbwr | tlbfill | invtlb | ertn | idle => simp
    | _ => cases h
  case privileged =>
    rintro (⟨_, _, rfl⟩ | ⟨_, _, rfl⟩ | ⟨_, _, _, rfl⟩ | ⟨_, _, _, rfl⟩ | rfl | rfl | rfl | rfl | ⟨_, _, _, rfl⟩ | rfl |
      ⟨_, rfl⟩) <;> rfl

/-- The meaning of a floating-point instruction is behind the check of EUEN.FPE. -/
theorem exec_of_isFloatingPoint {i : Instr} (h : isFloatingPoint i = true) (s : State) :
    ∃ k, exec i s = whenFpEnabled s k := by
  cases i with
  | addW | subW | addiW | lu12iW | slt | sltu | slti | sltui | pcaddu12i | mulW | mulhW | mulhWu | divW | divWu | modW
  | modWu | and | or | nor | xor | andi | ori | xori | sllW | srlW | sraW | slliW | srliW | sraiW | beq | bne | blt | bge
  | bltu | bgeu | b | bl | jirl | ldB | ldH | ldW | ldBu | ldHu | stB | stH | stW | preld | llW | scW | dbar | ibar
  | syscall | brk | rdcntvlW | rdcntvhW | rdcntid | csrrd | csrwr | csrxchg | cacop | tlbsrch | tlbrd | tlbwr | tlbfill
  | invtlb | ertn | idle => cases h
  | _ => exact ⟨_, rfl⟩

/-- Settles O18: the check of EUEN.FPE comes first, `exec_of_isFloatingPoint`. -/
theorem fpDisabledTakesFpd : Obligations.FpDisabledTakesFpd := by
  intro i s h hf
  obtain ⟨k, hk⟩ := exec_of_isFloatingPoint h s
  rw [hk, whenFpEnabled_no hf]

/-! ### What an instruction that is not privileged keeps (R470) -/

/-- The CSRs, the TLB, the timer's hidden bit, the wait state and the counter are as before. -/
structure SamePrivileged (s t : State) : Prop where
  csr : t.csr = s.csr
  tlb : t.tlb = s.tlb
  timer : t.timerRunning = s.timerRunning
  idle : t.idle = s.idle
  counter : t.counter = s.counter

theorem SamePrivileged.refl (s : State) : SamePrivileged s s := ⟨rfl, rfl, rfl, rfl, rfl⟩

theorem SamePrivileged.trans {s t u : State} (h : SamePrivileged s t) (h' : SamePrivileged t u) : SamePrivileged s u :=
  ⟨h'.csr.trans h.csr, h'.tlb.trans h.tlb, h'.timer.trans h.timer, h'.idle.trans h.idle, h'.counter.trans h.counter⟩

theorem SamePrivileged.advance {s t : State} (h : SamePrivileged s t) : SamePrivileged s t.advance :=
  h.trans ⟨rfl, rfl, rfl, rfl, rfl⟩

/-- The second state has the privileged state of the first, or is entry to a handler from such a state at the same
instruction. -/
inductive KeptOrTrapped (s : State) : State → Prop
  | kept {t : State} : SamePrivileged s t → KeptOrTrapped s t
  | trapped {u : State} (e : Trap) : SamePrivileged s u → u.pc = s.pc → KeptOrTrapped s (u.takeTrap e)

/-- Every next state that a result answers is one that `KeptOrTrapped` allows. -/
def KeepsPrivileged (s : State) (r : Result) : Prop := ∀ t, r = .next t → KeptOrTrapped s t

theorem KeptOrTrapped.takeTrap (s : State) (e : Trap) : KeptOrTrapped s (s.takeTrap e) := .trapped e (.refl s) rfl

theorem keepsPrivileged_next {s t : State} (h : SamePrivileged s t) : KeepsPrivileged s (.next t) := by
  rintro _ ⟨⟩
  exact .kept h

theorem keepsPrivileged_raise (e : Trap) (s : State) : KeepsPrivileged s (raise e s) := by
  rintro _ ⟨⟩
  exact .takeTrap s e

theorem keepsPrivileged_whenFpEnabled {s : State} {k : Result} (hk : KeepsPrivileged s k) :
    KeepsPrivileged s (whenFpEnabled s k) := by
  intro t h
  rcases whenFpEnabled_next h with ⟨-, h⟩ | ⟨-, rfl⟩
  · exact hk t h
  · exact .takeTrap s _

theorem keepsPrivileged_accessing (kind : Access) (n : Nat) (va : Word) {s : State} {k : PAddr → BitVec 2 → Result}
    (hk : ∀ pa mat, KeepsPrivileged s (k pa mat)) : KeepsPrivileged s (accessing kind n va s k) := by
  intro t h
  rcases accessing_next h with ⟨e, rfl⟩ | ⟨pa, mat, -, h⟩
  · exact .takeTrap s e
  · exact hk pa mat t h

theorem keepsPrivileged_reading (n : Nat) (va : Word) {s : State} {k : Nat → State} (hk : ∀ v, SamePrivileged s (k v)) :
    KeepsPrivileged s (reading n va s k) :=
  keepsPrivileged_accessing _ _ _ fun _ _ => keepsPrivileged_next (hk _)

theorem keepsPrivileged_writing (n : Nat) (va : Word) (v : Nat) (s : State) : KeepsPrivileged s (writing n va v s) :=
  keepsPrivileged_accessing _ _ _ fun _ _ => keepsPrivileged_next ⟨rfl, rfl, rfl, rfl, rfl⟩

theorem keepsPrivileged_loadReg (n : Nat) (rd : RegNum) (va : Word) (ext : Nat → Word) (s : State) :
    KeepsPrivileged s (loadReg n rd va ext s) :=
  keepsPrivileged_reading _ _ fun _ => ⟨rfl, rfl, rfl, rfl, rfl⟩

/-- FPE is taken with only FCSR0 written before. -/
theorem keepsPrivileged_fpComplete (sig : Signals) {s : State} {write : State → State}
    (hw : ∀ u, SamePrivileged u (write u)) : KeepsPrivileged s (fpComplete sig s write) := by
  have hfcsr (w : Word) : SamePrivileged s (s.setFcsr w) := ⟨rfl, rfl, rfl, rfl, rfl⟩
  intro t h
  rcases fpComplete_next h with rfl | rfl
  · exact .kept ((hfcsr _).trans (hw _)).advance
  · exact .trapped .fpe (hfcsr _) rfl

theorem samePrivileged_setFpResult (f : FpFormat) (r : RegNum) (bits : Nat) (s : State) :
    SamePrivileged s (s.setFpResult f r bits) := by
  cases f with
  | single => exact ⟨rfl, rfl, rfl, rfl, rfl⟩
  | double => exact ⟨rfl, rfl, rfl, rfl, rfl⟩

theorem samePrivileged_storeIf (doit : Bool) (pa : PAddr) (v : Word) (s : State) :
    SamePrivileged s (storeIf doit pa v s) := by
  cases doit with
  | false => exact .refl s
  | true => exact ⟨rfl, rfl, rfl, rfl, rfl⟩

theorem samePrivileged_writeFcsr (n : BitVec 5) (v : Word) (s : State) : SamePrivileged s (s.writeFcsr n v) := by
  unfold State.writeFcsr
  split
  · exact ⟨rfl, rfl, rfl, rfl, rfl⟩
  · exact ⟨rfl, rfl, rfl, rfl, rfl⟩

theorem keepsPrivileged_fpCompute (f : FpFormat) (fd : RegNum) (r : FpResult) (s : State) :
    KeepsPrivileged s (fpCompute f fd r s) :=
  keepsPrivileged_whenFpEnabled (keepsPrivileged_fpComplete _ (samePrivileged_setFpResult f fd r.bits))

theorem keepsPrivileged_fpCopy (f : FpFormat) (fd : RegNum) (bits : Nat) (s : State) :
    KeepsPrivileged s (fpCopy f fd bits s) :=
  keepsPrivileged_whenFpEnabled (keepsPrivileged_next (samePrivileged_setFpResult f fd bits s).advance)

theorem keepsPrivileged_fpCompareFlag (f : FpFormat) (cond : BitVec 5) (cd : FlagNum) (fj fk : RegNum) (s : State) :
    KeepsPrivileged s (fpCompareFlag f cond cd fj fk s) :=
  keepsPrivileged_whenFpEnabled (keepsPrivileged_fpComplete _ fun _ => ⟨rfl, rfl, rfl, rfl, rfl⟩)

theorem keepsPrivileged_llW (rd rj : RegNum) (si14 : BitVec 14) (s : State) :
    KeepsPrivileged s (execLlW rd rj si14 s) := by
  refine keepsPrivileged_accessing _ _ _ fun pa mat => keepsPrivileged_next ?_
  split
  · exact ⟨rfl, rfl, rfl, rfl, rfl⟩
  · exact ⟨rfl, rfl, rfl, rfl, rfl⟩

theorem keepsPrivileged_scW (rd rj : RegNum) (si14 : BitVec 14) (s : State) :
    KeepsPrivileged s (execScW rd rj si14 s) := by
  refine keepsPrivileged_accessing _ _ _ fun pa mat => keepsPrivileged_next ?_
  split
  · exact (samePrivileged_storeIf _ pa (s.reg rd) s).trans ⟨rfl, rfl, rfl, rfl, rfl⟩
  · exact (samePrivileged_storeIf _ pa (s.reg rd) s).trans ⟨rfl, rfl, rfl, rfl, rfl⟩

theorem keepsPrivileged_ibar (hint : BitVec 15) (s : State) : KeepsPrivileged s (exec (.ibar hint) s) := by
  rw [exec_ibar]
  exact keepsPrivileged_next ⟨rfl, rfl, rfl, rfl, rfl⟩

/-- What an instruction that is not privileged keeps, by the form its meaning has. -/
theorem exec_keepsPrivileged {i : Instr} (h : i.unit ≠ .privileged) (s : State) : KeepsPrivileged s (exec i s) := by
  cases i with
  | addW | subW | addiW | lu12iW | slt | sltu | slti | sltui | pcaddu12i | mulW | mulhW | mulhWu | divW | divWu | modW
  | modWu | and | or | nor | xor | andi | ori | xori | sllW | srlW | sraW | slliW | srliW | sraiW | rdcntvlW | rdcntvhW
  | rdcntid | beq | bne | blt | bge | bltu | bgeu | b | bl | jirl | preld | dbar =>
    exact keepsPrivileged_next ⟨rfl, rfl, rfl, rfl, rfl⟩
  | ldB | ldH | ldW | ldBu | ldHu =>
    unfold exec
    exact keepsPrivileged_loadReg _ _ _ _ _
  | stB | stH | stW => exact keepsPrivileged_writing _ _ _ _
  | llW => exact keepsPrivileged_llW _ _ _ _
  | scW => exact keepsPrivileged_scW _ _ _ _
  | ibar => exact keepsPrivileged_ibar _ _
  | syscall | brk => exact keepsPrivileged_raise _ _
  | fabsS | fabsD | fnegS | fnegD | fcopysignS | fcopysignD | fclassS | fclassD | fmovS =>
    exact keepsPrivileged_fpCopy _ _ _ _
  | fcmpCafS | fcmpCunS | fcmpCeqS | fcmpCueqS | fcmpCltS | fcmpCultS | fcmpCleS | fcmpCuleS | fcmpCneS | fcmpCorS
  | fcmpCuneS | fcmpSafS | fcmpSunS | fcmpSeqS | fcmpSueqS | fcmpSltS | fcmpSultS | fcmpSleS | fcmpSuleS | fcmpSneS
  | fcmpSorS | fcmpSuneS | fcmpCafD | fcmpCunD | fcmpCeqD | fcmpCueqD | fcmpCltD | fcmpCultD | fcmpCleD | fcmpCuleD
  | fcmpCneD | fcmpCorD | fcmpCuneD | fcmpSafD | fcmpSunD | fcmpSeqD | fcmpSueqD | fcmpSltD | fcmpSultD | fcmpSleD
  | fcmpSuleD | fcmpSneD | fcmpSorD | fcmpSuneD => exact keepsPrivileged_fpCompareFlag _ _ _ _ _ _
  | fmovD | fsel | movgr2frhW | movcf2fr | movgr2frW | movfr2grS | movfrh2grS | movcf2gr | movfcsr2gr | movfr2cf
  | movgr2cf | bceqz | bcnez =>
    exact keepsPrivileged_whenFpEnabled (keepsPrivileged_next ⟨rfl, rfl, rfl, rfl, rfl⟩)
  | movgr2fcsr n rj =>
    exact keepsPrivileged_whenFpEnabled (keepsPrivileged_next (samePrivileged_writeFcsr n (s.reg rj) s).advance)
  | fldS | fldD =>
    exact keepsPrivileged_whenFpEnabled (keepsPrivileged_reading _ _ fun _ => ⟨rfl, rfl, rfl, rfl, rfl⟩)
  | fstS | fstD => exact keepsPrivileged_whenFpEnabled (keepsPrivileged_writing _ _ _ _)
  | csrrd | csrwr | csrxchg | cacop | tlbsrch | tlbrd | tlbwr | tlbfill | invtlb | ertn | idle => exact absurd rfl h
  | _ => exact keepsPrivileged_fpCompute _ _ _ _

/-- Settles O11: a privileged instruction takes IPE, `exec_privileged_in_user_mode`; any other keeps the privileged state or
takes an exception, `exec_keepsPrivileged`. -/
theorem userModeKeepsSystemState : Obligations.UserModeKeepsSystemState := by
  intro i s t hp hx
  have hkept : KeptOrTrapped s t := by
    by_cases hi : i.unit = .privileged
    · rw [exec_privileged_in_user_mode hi hp] at hx
      cases hx
      exact .takeTrap s .ipe
    · exact exec_keepsPrivileged hi s t hx
  cases hkept with
  | kept h => exact ⟨h.tlb, h.timer, h.idle, h.counter, .inl h.csr⟩
  | trapped e h hpc =>
    refine ⟨h.tlb, h.timer, h.idle, h.counter, .inr ⟨e, ?_, ?_⟩⟩
    · rw [State.takeTrap_csr, h.csr, hpc]
    · rw [State.takeTrap_pc, h.csr]

end Sys2Proof.Machine
end

section
/-! SUPPORT. TLBRD, TLBWR, TLBFILL, CACOP, IDLE and reset in the terms of the statements; O10, O49 and O51. -/

namespace Sys2Proof.Machine

/-! ### TLBRD (R438) -/

theorem Csrs.readTlbEntry_of_exists (c : Csrs) {e : TlbEntry} (h : e.e = true) : c.readTlbEntry e = { c with
    tlbehi := place e.vppn 13
    tlbelo0 := tlbeloOfPage e.page0 e.g
    tlbelo1 := tlbeloOfPage e.page1 e.g
    tlbidx := setBit (setField c.tlbidx 24 e.ps) 31 false } := if_pos h

theorem Csrs.readTlbEntry_of_invalid (c : Csrs) {e : TlbEntry} (h : e.e = false) : c.readTlbEntry e = { c with
    asid := 0#10
    tlbehi := 0#32
    tlbelo0 := 0#32
    tlbelo1 := 0#32
    tlbidx := setBit (setField c.tlbidx 24 0#6) 31 true } := if_neg (by simp [h])

/-- Only the registers of the TLB can change. -/
theorem Csrs.readTlbEntry_frame (c : Csrs) (e : TlbEntry) : c.readTlbEntry e = { c with
    tlbidx := (c.readTlbEntry e).tlbidx
    tlbehi := (c.readTlbEntry e).tlbehi
    tlbelo0 := (c.readTlbEntry e).tlbelo0
    tlbelo1 := (c.readTlbEntry e).tlbelo1
    asid := (c.readTlbEntry e).asid } := by
  cases h : e.e with
  | true => rw [c.readTlbEntry_of_exists h]
  | false => rw [c.readTlbEntry_of_invalid h]

section
variable (w : Word) (ps : BitVec 6) (b : Bool)

/-- TLBIDX after TLBRD, field by field: NE and PS are written, Index is kept. -/
theorem bit_tlbidxAfterRead : bit (setBit (setField w 24 ps) 31 b) 31 = b := by
  rw [bit_setBit _ 31 b 31 (by decide), if_pos rfl]

theorem ps_tlbidxAfterRead : field (setBit (setField w 24 ps) 31 b) 24 6 = ps := by
  rw [setBit, field_setField_other _ _ _ _ _ (by decide), field_setField_same _ _ _ (by decide)]

theorem index_tlbidxAfterRead :
    field (setBit (setField w 24 ps) 31 b) 0 Config.tlbIndexBits = field w 0 Config.tlbIndexBits := by
  rw [setBit, field_setField_other _ _ _ _ _ (by decide), field_setField_other _ _ _ _ _ (by decide)]

end

theorem Csrs.readTlbEntry_index (c : Csrs) (e : TlbEntry) : (c.readTlbEntry e).index = c.index := by
  cases h : e.e with
  | true => rw [c.readTlbEntry_of_exists h]; exact index_tlbidxAfterRead _ _ _
  | false => rw [c.readTlbEntry_of_invalid h]; exact index_tlbidxAfterRead _ _ _

/-- The register built from a page and its entry's G holds them field by field (R70). -/
theorem tlbeloOfPage_holdsPage (p : TlbPage) (g : Bool) : HoldsPage (tlbeloOfPage p g) p g := by
  have hppn : field (place p.ppn 8) 8 20 = p.ppn := field_place_same p.ppn 8 (by decide)
  refine ⟨?v, ?d, ?plv, ?mat, ?g, ?zero7, ?ppn, ?zero28⟩
  case v | d | g | zero7 => exact getLsbD_tlbeloOfPage p g _ (by decide)
  case plv | mat | ppn | zero28 =>
    simp (disch := decide) only [tlbeloOfPage, field_or, field_place_same, field_place_other, BitVec.or_zero,
      BitVec.zero_or, hppn]

theorem exec_tlbrd {s : State} {i : Fin Config.tlbEntries} (hp : s.csr.plv = 0#2) (hi : i.val = s.csr.index.toNat) :
    exec .tlbrd s = .next (s.setCsr (s.csr.readTlbEntry (s.tlb.get i))).advance :=
  (whenPrivileged_yes hp).trans (atTlbIndex_eq hi)

/-! ### TLBWR and TLBFILL (R439, R440) -/

theorem tlbEntry_fromCsrs (c : Csrs) : FromCsrs c c.tlbEntry :=
  ⟨by simp [Csrs.tlbEntry], rfl, rfl, rfl, rfl, ⟨rfl, rfl, rfl, rfl, rfl⟩, rfl, rfl, rfl, rfl, rfl⟩

theorem exec_tlbwr {s : State} {i : Fin Config.tlbEntries} (hp : s.csr.plv = 0#2) (hi : i.val = s.csr.index.toNat) :
    exec .tlbwr s = .next (writeTlbEntry i s).advance :=
  (whenPrivileged_yes hp).trans (atTlbIndex_eq hi)

theorem writeTlbEntry_same (i : Fin Config.tlbEntries) (s : State) : FromCsrs s.csr ((writeTlbEntry i s).tlb.get i) := by
  rw [writeTlbEntry, State.setTlb_tlb, vector_get_set, if_pos rfl]
  exact tlbEntry_fromCsrs s.csr

theorem writeTlbEntry_other {i j : Fin Config.tlbEntries} (h : j ≠ i) (s : State) :
    (writeTlbEntry i s).tlb.get j = s.tlb.get j := by
  rw [writeTlbEntry, State.setTlb_tlb, vector_get_set, if_neg (fun hv => h (Fin.ext hv))]

/-- The count of a draw is in no frame of the statements. -/
theorem TlbFrame.drawn {s t : State} (n : Nat) (h : TlbFrame s t.advance) : TlbFrame s (t.drawn n).advance :=
  ⟨h.gpr, h.pc, h.fpr, h.flags, h.fcsr, h.memory, h.stale, h.llbit, h.lladdr, h.counter, h.timer, h.idle, h.agenda⟩

/-- Settles O49: TLBRD by `Csrs.readTlbEntry` on an entry that exists and on one that does not; TLBWR and TLBFILL by the
one entry they set. -/
theorem tlbReadAndWrite : Obligations.TlbReadAndWrite := by
  intro s i hp hi
  refine ⟨⟨_, exec_tlbrd hp hi, rfl, setCsr_tlbFrame _ s, s.csr.readTlbEntry_index _, s.csr.readTlbEntry_frame _,
      fun he => ?found, fun he => ?invalid⟩,
    ⟨_, exec_tlbwr hp hi, writeTlbEntry_same i s, fun j hj => writeTlbEntry_other hj s, rfl, setTlb_tlbFrame _ s⟩,
    ⟨_, whenPrivileged_yes hp, rfl, (setTlb_tlbFrame _ s).drawn 1, Config.tlbFillVictim s.draws,
      writeTlbEntry_same _ s, fun j hj => writeTlbEntry_other hj s⟩⟩
  case found =>
    rw [State.advance_csr, State.setCsr_csr, s.csr.readTlbEntry_of_exists he]
    exact ⟨bit_tlbidxAfterRead _ _ _, ps_tlbidxAfterRead _ _ _, field_place_same _ _ (by decide),
      field_place_other _ _ _ _ (by decide), tlbeloOfPage_holdsPage _ _, tlbeloOfPage_holdsPage _ _, rfl⟩
  case invalid =>
    rw [State.advance_csr, State.setCsr_csr, s.csr.readTlbEntry_of_invalid he]
    exact ⟨bit_tlbidxAfterRead _ _ _, ps_tlbidxAfterRead _ _ _, rfl, rfl, rfl, rfl⟩

/-! ### CACOP (R435) -/

/-- A field of a zero-extended operand is the operand's. -/
theorem field_zext32 {m : Nat} (v : BitVec m) (lo n : Nat) (h : lo + n ≤ 32) :
    field (zext32 v) lo n = v.extractLsb' lo n := by
  apply BitVec.eq_of_getLsbD_eq
  intro i hi
  rw [field_getLsbD, zext32, BitVec.getLsbD_setWidth, decide_eq_true (show lo + i < 32 by omega), Bool.true_and,
    BitVec.getLsbD_extractLsb']

/-- A CACOP translates when it is of the hit type and its cache is one of the three, and present. -/
theorem cacopTranslates_iff (code : BitVec 5) : cacopTranslates code = true ↔ field (zext32 code) 3 2 = 2#2 ∧
    (field (zext32 code) 0 3).toNat ≤ 2 ∧ (Config.cacheGeom (field (zext32 code) 0 3)).isSome = true := by
  rw [field_zext32 _ _ _ (by decide), field_zext32 _ _ _ (by decide)]
  simp [cacopTranslates, cachePresent, BitVec.le_def]

section
variable {code : BitVec 5} {rj : RegNum} {o : BitVec 12} {s : State} (hp : s.csr.plv = 0#2)
include hp

theorem exec_cacop_of_no_translation (h : cacopTranslates code = false) :
    exec (.cacop code rj o) s = .next s.advance := by
  refine (whenPrivileged_yes hp).trans ((if_neg (by simp [h])).trans ?_)
  exact ite_self _

theorem exec_cacop_of_mapped {pa : PAddr} {mat : BitVec 2}
    (ht : s.translate .load (vaddr s rj o) = .mapped pa mat) : exec (.cacop code rj o) s = .next s.advance := by
  cases h : cacopTranslates code with
  | false => exact exec_cacop_of_no_translation hp h
  | true =>
    refine (whenPrivileged_yes hp).trans ((if_pos h).trans ?_)
    rw [show s.address rj o = vaddr s rj o from rfl, ht]

theorem exec_cacop_of_trapped {e : Trap} (h : cacopTranslates code = true)
    (ht : s.translate .load (vaddr s rj o) = .trapped e) : exec (.cacop code rj o) s = .next (s.takeTrap e) := by
  refine (whenPrivileged_yes hp).trans ((if_pos h).trans ?_)
  rw [show s.address rj o = vaddr s rj o from rfl, ht]
  rfl

end

/-- Settles O51: whether a CACOP translates is `cacopTranslates_iff`, and where it does not it only advances. -/
theorem cacopAndIdle : Obligations.CacopAndIdle := by
  intro code rj o l s hp kind cache
  have hadvance : PcEffect s s.advance (s.pc + 4#32) := setPc_effect _ s
  have hno (h : ¬ (kind = 2#2 ∧ cache.toNat ≤ 2 ∧ (Config.cacheGeom cache).isSome = true)) :
      exec (.cacop code rj o) s = .next s.advance :=
    exec_cacop_of_no_translation hp (Bool.eq_false_of_not_eq_true (mt (cacopTranslates_iff code).mp h))
  refine ⟨fun hk => ⟨_, hno fun h => hk h.1, hadvance⟩, fun pa mat ht => ⟨_, exec_cacop_of_mapped hp ht, hadvance⟩,
    fun e hk ht => ?trapped, fun hc => ⟨_, hno fun ⟨_, h, _⟩ => absurd hc (Nat.not_lt.mpr h), hadvance⟩,
    _, whenPrivileged_yes hp, rfl⟩
  case trapped =>
    split
    · next h => exact exec_cacop_of_trapped hp ((cacopTranslates_iff code).mpr ⟨hk, h⟩) ht
    · next h => exact hno fun ⟨_, hpresent⟩ => h hpresent

/-! ### Reset (R531, R533) -/

theorem resetEvent_csr (s : State) : (resetEvent s).csr =
    { Csrs.reset with estat := s.csr.estat &&& inputLines, era := s.csr.era } := rfl

/-- The interrupt-status bits after reset: those of the input lines as they were, the others 0. -/
theorem resetEvent_estat_getLsbD (s : State) (i : Nat) : (resetEvent s).csr.estat.getLsbD i =
    (s.csr.estat.getLsbD i && decide ((2 ≤ i ∧ i < 10) ∨ i = 12)) := by
  have hl : inputLines.getLsbD i = decide ((2 ≤ i ∧ i < 10) ∨ i = 12) := by
    rw [inputLines, BitVec.getLsbD_or, ones_getLsbD, ones_getLsbD]
    simp only [← Bool.decide_and, ← Bool.decide_or]
    exact decide_eq_decide.mpr (by omega)
  rw [← hl, resetEvent_csr]
  exact BitVec.getLsbD_and

theorem resetEvent_afterReset (s : State) : AfterReset (resetEvent s) where
  pc := rfl
  r0 := rfl
  counter := rfl
  idle := rfl
  crmd := rfl
  fpe := show Csrs.reset.fpe = false by decide
  lie := show Csrs.reset.lie = 0#13 by decide
  software := by
    have hmask : field inputLines 0 2 = 0#2 := by decide
    rw [resetEvent_csr, field_and, hmask, BitVec.and_zero]
  timer :=
    have hticks : (resetEvent s).csr.estat.getLsbD 11 = false :=
      (resetEvent_estat_getLsbD s 11).trans (Bool.and_false _)
    ⟨hticks, show Csrs.reset.tcfg.getLsbD 0 = false by decide, rfl⟩
  klo := rfl
  dmw0 := show Csrs.reset.dmw0.getLsbD 0 = false ∧ Csrs.reset.dmw0.getLsbD 3 = false by decide
  dmw1 := show Csrs.reset.dmw1.getLsbD 0 = false ∧ Csrs.reset.dmw1.getLsbD 3 = false by decide
  ticlr := rfl
  cpuid := rfl

/-- The first state is what reset as an event leaves of itself. -/
theorem resetEvent_reset : resetEvent State.reset = State.reset := rfl

/-- Settles O10: the event leaves what R531 gives whatever was before, so the first state, which it leaves as it is, has it. -/
theorem resetValues : Obligations.ResetValues := by
  refine ⟨resetEvent_reset ▸ resetEvent_afterReset State.reset, fun s => ⟨_, rfl, resetEvent_afterReset s, rfl,
    fun i hi => ?_, rfl, rfl, rfl⟩⟩
  rw [resetEvent_estat_getLsbD, decide_eq_true hi, Bool.and_true]

end Sys2Proof.Machine
end
